-- ==== Sys2Proof/Word.lean ====
section
/-! DEFINITION. The widths of the values the core holds (00_scope.md rules R6, R7 and R8). -/

namespace Sys2Proof

/-- A memory word; also AC, DR, IR and TR (rule R6, `WORD_BITS` = 16). -/
abbrev Word := BitVec 16

/-- A word address; also AR, PC and the address field (rule R6, `ADDR_BITS` = 12). -/
abbrev Addr := BitVec 12

/-- A character; also INPR and OUTR (rule R6, `CHAR_BITS` = 8). -/
abbrev Char8 := BitVec 8

end Sys2Proof
end

