-- ==== Sys2Proof/Config.lean ====
section
/-! DEFINITION. The parameters of the core that are fixed for this hardware (00_scope.md rule R6).
The spec leaves no instruction's result open, so there is no free value here: every point its source
leaves open is decided by the spec itself (92_eei_decisions.md) and logged in notes/assumptions. -/

namespace Sys2Proof.Config

/-- `MEM_WORDS` (rule R6): word addresses are 0..4095 (rule R60). -/
def memWords : Nat := 4096

/-- How many 16-bit words there are (rule R6, `WORD_BITS`): the bound a loaded word must meet (rule R231). -/
def wordValues : Nat := 65536

/-- How many 8-bit characters there are (rule R6, `CHAR_BITS`): the bound a pushed character must meet (rule R190). -/
def charValues : Nat := 256

/-- The entry address of a newly created core: the state of `resetLoad([], 0)` (rule R232). -/
def createdEntry : Addr := 0#12

end Sys2Proof.Config
end

