-- ==== Sys2Proof/Syntax.lean ====
section
/-! DEFINITION. The 25 instructions of spec/opcode_table.json, one constructor per row.
A memory-reference instruction carries its I bit and its 12-bit address field (30_encoding.md rules R81
and R85); the other two shapes have no operand (rules R82 and R83). -/

namespace Sys2Proof

inductive Instr where
  -- memory-reference (41_memory_reference.md)
  | and (indirect : Bool) (address : Addr)
  | add (indirect : Bool) (address : Addr)
  | lda (indirect : Bool) (address : Addr)
  | sta (indirect : Bool) (address : Addr)
  | bun (indirect : Bool) (address : Addr)
  | bsa (indirect : Bool) (address : Addr)
  | isz (indirect : Bool) (address : Addr)
  -- register-reference (42_register_reference.md)
  | cla
  | cle
  | cma
  | cme
  | cir
  | cil
  | inc
  | spa
  | sna
  | sza
  | sze
  | hlt
  -- input/output (43_input_output.md)
  | inp
  | out
  | ski
  | sko
  | ion
  | iof
  deriving DecidableEq, Repr

end Sys2Proof
end

