-- ==== Sys2Proof/WellFormed.lean ====
section
/-! DEFINITION. Which instructions are well formed. `Instr` carries its operand at its own width, so every
term of it passes; the check that can fail is the one on `Form`, the unchecked shape (class, opcode or
select bit, operand as plain numbers) that the table-driven encoder of 30_encoding.md rule R89 takes. -/

namespace Sys2Proof

/-- The three disjoint shapes of an instruction word (rule R84), with their fields as plain numbers. -/
inductive Form where
  | memory (opcode : Nat) (indirect : Bool) (address : Nat)
  | register (selectBit : Nat)
  | io (selectBit : Nat)
  deriving DecidableEq, Repr

/-- The fields a form may hold: opcode 0..6 (rules R81 and R84: "the opcode value 7 is never used as a
memory-reference opcode"), address 0..4095 (rule R81), one select bit of B11..B0 (rule R82), one select
bit of B11..B6 for input/output (rule R83). -/
def Form.wellFormed : Form → Bool
  | .memory opcode _ address => decide (opcode < 7) && decide (address < Config.memWords)
  | .register selectBit => decide (selectBit < 12)
  | .io selectBit => decide (6 ≤ selectBit) && decide (selectBit < 12)

/-- An instruction is well formed when its address is one of the 4096 word addresses; the other two
shapes have no field. The width of `Addr` makes this hold of every term (Laws.instr_wellFormed). -/
def Instr.wellFormed : Instr → Bool
  | .and _ a | .add _ a | .lda _ a | .sta _ a | .bun _ a | .bsa _ a | .isz _ a =>
    decide (a.toNat < Config.memWords)
  | .cla | .cle | .cma | .cme | .cir | .cil | .inc | .spa | .sna | .sza | .sze | .hlt => true
  | .inp | .out | .ski | .sko | .ion | .iof => true

end Sys2Proof
end

