-- ==== Sys2Proof/Decode.lean ====
section
/-! DEFINITION. The decoder, total on every 16-bit word, and the encoder, each written from the tables of
30_encoding.md (rules R80 to R93) on its own: the decoder from the dispatch of 40_cycle.md rule R122, the
encoder from rule R89 and the opcode and select-bit tables of rules R86 to R88. -/

namespace Sys2Proof

/-- `IR[15]`, the indirect flag (rule R81). -/
def fieldI (w : Word) : Bool := w.getLsbD 15

/-- `IR[14:12]`, the opcode (rule R81). -/
def fieldOp (w : Word) : BitVec 3 := w.extractLsb' 12 3

/-- `IR[11:0]`: the address (rule R81) or the select pattern (rules R82 and R83). -/
def fieldAddr (w : Word) : Addr := w.extractLsb' 0 12

/-- Why a word is undefined, as rule R90 sorts the undefined words (all have `IR[14:12] = 7`). -/
inductive DecodeError where
  /-- bits 11:0 are all zero -/
  | noSelect
  /-- `IR[15] = 1` and exactly one bit is set, among bits 5:0 -/
  | ioLowSelect
  /-- two or more of bits 11:0 are set -/
  | severalSelects
  deriving DecidableEq, Repr

/-- Whether exactly one bit of a pattern is set, and it is one of bits 5:0. -/
def lowSelect (b : Addr) : Bool :=
  b == 0x020#12 || b == 0x010#12 || b == 0x008#12 || b == 0x004#12 || b == 0x002#12 || b == 0x001#12

/-- Register-reference words, `IR[15:12] = 0111` (rules R87 and R122).
The select bits are the spec's decision D4 (PRESUMED, log entry 9). -/
def decodeRegister (b : Addr) : Except DecodeError Instr :=
  if b = 0x800#12 then .ok .cla
  else if b = 0x400#12 then .ok .cle
  else if b = 0x200#12 then .ok .cma
  else if b = 0x100#12 then .ok .cme
  else if b = 0x080#12 then .ok .cir
  else if b = 0x040#12 then .ok .cil
  else if b = 0x020#12 then .ok .inc
  else if b = 0x010#12 then .ok .spa
  else if b = 0x008#12 then .ok .sna
  else if b = 0x004#12 then .ok .sza
  else if b = 0x002#12 then .ok .sze
  else if b = 0x001#12 then .ok .hlt
  else if b = 0x000#12 then .error .noSelect
  else .error .severalSelects

/-- Input/output words, `IR[15:12] = 1111` (rules R88 and R122; select bits: log entry 9). -/
def decodeIo (b : Addr) : Except DecodeError Instr :=
  if b = 0x800#12 then .ok .inp
  else if b = 0x400#12 then .ok .out
  else if b = 0x200#12 then .ok .ski
  else if b = 0x100#12 then .ok .sko
  else if b = 0x080#12 then .ok .ion
  else if b = 0x040#12 then .ok .iof
  else if b = 0x000#12 then .error .noSelect
  else if lowSelect b then .error .ioLowSelect
  else .error .severalSelects

/-- Every word is one instruction or undefined (rules R84, R90, R91 and R122); nothing but the word's own
bits is read (rules R92 and R93). -/
def decode (w : Word) : Except DecodeError Instr :=
  match (fieldOp w).toNat with
  | 0 => .ok (.and (fieldI w) (fieldAddr w))
  | 1 => .ok (.add (fieldI w) (fieldAddr w))
  | 2 => .ok (.lda (fieldI w) (fieldAddr w))
  | 3 => .ok (.sta (fieldI w) (fieldAddr w))
  | 4 => .ok (.bun (fieldI w) (fieldAddr w))
  | 5 => .ok (.bsa (fieldI w) (fieldAddr w))
  | 6 => .ok (.isz (fieldI w) (fieldAddr w))
  | _ => if fieldI w then decodeIo (fieldAddr w) else decodeRegister (fieldAddr w)

/-- The instruction whose bits are `w`, numbered as spec/opcode_table.json numbers them. One instruction is
one 16-bit word (rule R80); bits from `nbits` up are 0, and no instruction is longer than 16 bits. -/
def decodeTableWord (nbits w : Nat) : Option Instr :=
  if nbits ≤ 16 then (decode (BitVec.ofNat 16 (w % 2 ^ nbits))).toOption else none

/-- The shape, opcode and select bit of each mnemonic: the tables of rules R86, R87 and R88. -/
def Instr.form : Instr → Form
  | .and i a => .memory 0 i a.toNat
  | .add i a => .memory 1 i a.toNat
  | .lda i a => .memory 2 i a.toNat
  | .sta i a => .memory 3 i a.toNat
  | .bun i a => .memory 4 i a.toNat
  | .bsa i a => .memory 5 i a.toNat
  | .isz i a => .memory 6 i a.toNat
  | .cla => .register 11
  | .cle => .register 10
  | .cma => .register 9
  | .cme => .register 8
  | .cir => .register 7
  | .cil => .register 6
  | .inc => .register 5
  | .spa => .register 4
  | .sna => .register 3
  | .sza => .register 2
  | .sze => .register 1
  | .hlt => .register 0
  | .inp => .io 11
  | .out => .io 10
  | .ski => .io 9
  | .sko => .io 8
  | .ion => .io 7
  | .iof => .io 6

/-- Rule R89: `word = (i << 15) | (op << 12) | a`, `0x7000 | (1 << b)` and `0xF000 | (1 << b)`. -/
def Form.word : Form → Word
  | .memory opcode indirect address =>
    (BitVec.ofBool indirect).setWidth 16 <<< 15 ||| BitVec.ofNat 16 opcode <<< 12 ||| BitVec.ofNat 16 address
  | .register selectBit => 0x7000#16 ||| 1#16 <<< selectBit
  | .io selectBit => 0xF000#16 ||| 1#16 <<< selectBit

/-- The word of an instruction (rule R89). -/
def encode (i : Instr) : Word := i.form.word

end Sys2Proof
end

