-- ==== Sys2Proof/Machine/State.lean ====
section
/-! DEFINITION. The state of the core and of the environment it shares with the host (10_state.md), the
reasons a step can stop, and the state of a newly created core. -/

namespace Sys2Proof.Machine

/-- The fault of 60_exceptions.md rule R200, the only one of the core (rule R202).
It is both what the register FAULT records (rule R38) and what a step of a Faulted core answers (rule R126). -/
inductive Fault where
  /-- `InternalDecodeError(w)`: the T3 pulse met the undefined word `w` (rule R90). That pulse itself is a next
  state, which records `w` in FAULT; the steps after it answer this fault and change nothing (rule R201).
  Raised by `step`, `microStep` and `macroStep` on a state whose FAULT holds it. Safe: the spec's own outcome. -/
  | internalDecodeError (word : Word)
  deriving DecidableEq, Repr

/-- What the model gives no meaning to. The spec itself has no refusal (rule R13). -/
inductive Refusal where
  /-- An instruction that has no meaning in this model, by its mnemonic; no arm of `exec` raises it. Safe. -/
  | notModelled (mnemonic : String)
  /-- The state asks for a pulse that 40_cycle.md rule R110 does not list (a value 7..15 of SC, a pulse beyond
  the last one of the instruction in IR, SC over 2 in an interrupt cycle). Raised by `step` and `microStep`.
  Safe: no state that meets the invariant of Safety.lean, and so no reachable state (rule R45), is one (log entry 4). -/
  | noPulse (sc : BitVec 4)
  deriving DecidableEq, Repr

/-- Memory (rule R40) as plain data: the words that differ from what an unlisted address reads as, by rising
address. The smallest addressable unit is the 16-bit word; no address names a byte (20_memory.md rule R64;
log entry 5). -/
abbrev Memory := List (Nat × Word)

/-- Every piece of state of 10_state.md. A one-bit flag is a `Bool`, 1 being `true`. -/
structure State where
  /-- AC, the accumulator (rule R21). -/
  ac : Word
  /-- E, the carry bit (rule R22; snapshot `overflow`). -/
  e : Bool
  /-- AR, the address register (rule R23). -/
  ar : Addr
  /-- PC, the program counter (rule R24). -/
  pc : Addr
  /-- DR, the data register (rule R25). -/
  dr : Word
  /-- IR, the instruction register (rule R26). -/
  ir : Word
  /-- TR, the temporary register (rule R27). -/
  tr : Word
  /-- INPR, the input buffer (rule R28). -/
  inpr : Char8
  /-- OUTR, the output buffer (rule R29). -/
  outr : Char8
  /-- SC, the sequence counter: the index of the next timing pulse (rule R30; snapshot `time`). -/
  sc : BitVec 4
  /-- I, the indirect flag (rule R32; snapshot `indirection`). -/
  flagI : Bool
  /-- S, the stop flag, 1 = halted (rule R33; snapshot `stop`). -/
  flagS : Bool
  /-- R, the interrupt-pending flag (rule R34; snapshot `interrupt`). -/
  flagR : Bool
  /-- IEN, the interrupt-enable flag (rule R35; snapshot `interruptEnable`). -/
  ien : Bool
  /-- FGI, the input-ready flag (rule R36; snapshot `input`). -/
  fgi : Bool
  /-- FGO, the output-ready flag (rule R37; snapshot `output`). -/
  fgo : Bool
  /-- FAULT, the fault register (rule R38). -/
  faultReg : Option Fault
  /-- M, the 4096 words of memory (rule R40). -/
  mem : Memory
  /-- `inputQueue`, the characters the host has pushed, oldest first (rule R41; snapshot `inputStream`). -/
  inputQueue : List Char8
  /-- `outputStream`, the characters OUT has emitted, oldest first (rules R41 and R189). -/
  outputStream : List Char8
  /-- The values of the host input `out_ready` (rule R42) at the coming cycle starts, the next one first.
  The MODEL's way to hold that input as plain data (log entry 6). -/
  outReadyScript : List Bool
  /-- `out_ready` at every cycle start after those of `outReadyScript` (rule R42; log entry 6). -/
  outReadyRest : Bool
  deriving DecidableEq, Repr

/-- A newly created core: what `resetLoad([], 0)` gives (rule R232, with the values of rules R46 and R230),
in the default environment, where `out_ready` is always true (rule R42). The values other than memory's and
PC's are the spec's decision D10 (log entry 7). -/
def State.reset : State where
  ac := 0#16
  e := false
  ar := 0#12
  pc := Config.createdEntry
  dr := 0#16
  ir := 0#16
  tr := 0#16
  inpr := 0#8
  outr := 0#8
  sc := 0#4
  flagI := false
  flagS := false
  flagR := false
  ien := false
  fgi := false
  fgo := false
  faultReg := none
  mem := []
  inputQueue := []
  outputStream := []
  outReadyScript := []
  outReadyRest := true

end Sys2Proof.Machine
end

