-- ==== Sys2Proof/Machine/Flags.lean ====
section
/-! DEFINITION. The ALU and every flag and test computation (41_memory_reference.md rules R140 and R141,
42_register_reference.md rules R165 to R171, 60_exceptions.md rule R206). -/

namespace Sys2Proof.Machine

/-- `alu_and` (rule R140). -/
def aluAnd (a b : Word) : Word := a &&& b

/-- `alu_add` (rule R141): the 17-bit sum, cut into its low 16 bits and its bit 16, the carry. -/
def aluAdd (a b : Word) : Word × Bool :=
  let sum : BitVec 17 := a.setWidth 17 + b.setWidth 17
  (sum.setWidth 16, sum.getLsbD 16)

/-- CIR's transfer (rule R165): `AC <- E ++ AC[15:1]; E <- AC[0]`. -/
def circulateRight (ac : Word) (e : Bool) : Word × Bool :=
  (BitVec.ofBool e ++ ac.extractLsb' 1 15, ac.getLsbD 0)

/-- CIL's transfer (rule R166): `AC <- AC[14:0] ++ E; E <- AC[15]`. -/
def circulateLeft (ac : Word) (e : Bool) : Word × Bool :=
  (ac.extractLsb' 0 15 ++ BitVec.ofBool e, ac.getLsbD 15)

/-- SNA's test (rule R169): the sign bit is 1. -/
def acNegative (ac : Word) : Bool := ac.getLsbD 15

/-- SPA's test (rule R168): the sign bit is 0, so zero counts as positive. -/
def acPositive (ac : Word) : Bool := !ac.getLsbD 15

/-- The zero test of SZA (rule R170) and of ISZ (rule R149). -/
def isZero (v : Word) : Bool := v == 0#16

/-- The condition of the interrupt check (rule R206): `IEN = 1 and (FGI = 1 or FGO = 1)`. -/
def interruptRequest (ien fgi fgo : Bool) : Bool := ien && (fgi || fgo)

end Sys2Proof.Machine
end

