-- ==== Sys2Proof/Machine/Ops.lean ====
section
/-! DEFINITION. The shared operations: memory (20_memory.md), the devices (43_input_output.md rules R187 and
R188), the pulses of Fetch and Decode (40_cycle.md rules R114 to R116), the end of a cycle (rule R121), and the
two kinds of exception entry (60_exceptions.md): the interrupt cycle and the fault.
Every pulse obeys the parallel transfer of 00_scope.md rule R12: its right-hand sides read the state before it. -/

namespace Sys2Proof.Machine

/-! ### Widths (00_scope.md rule R9) -/

/-- `zext_16` of a 12-bit register: bits 15:12 are 0 (decision D18, log entry 14). -/
def zext16 (a : Addr) : Word := a.setWidth 16

/-- `trunc_12` of a word: bits 15:12 are dropped (rules R67 and R117; log entry 14). -/
def trunc12 (w : Word) : Addr := w.setWidth 12

/-! ### Memory -/

/-- What a word that no entry lists reads as: memory is "zero-initialized" (rules R40 and R46). -/
def unlistedWord : Word := 0#16

/-- The word at an address. -/
def Memory.read : Memory → Nat → Word
  | [], _ => unlistedWord
  | (k, w) :: m, a => if k = a then w else Memory.read m a

/-- The memory with one word replaced, in canonical form if it was: addresses strictly rising and no
entry equal to what an unlisted address reads as. -/
def Memory.write : Memory → Nat → Word → Memory
  | [], a, v => if v = unlistedWord then [] else [(a, v)]
  | (k, w) :: m, a, v =>
    if a < k then (if v = unlistedWord then (k, w) :: m else (a, v) :: (k, w) :: m)
    else if a = k then (if v = unlistedWord then m else (a, v) :: m)
    else (k, w) :: Memory.write m a v

/-- Every entry from `lo` on is canonical. -/
def Memory.wfFrom : Nat → Memory → Bool
  | _, [] => true
  | lo, (k, w) :: m =>
    decide (lo ≤ k) && decide (k < Config.memWords) && decide (w ≠ unlistedWord) && Memory.wfFrom (k + 1) m

/-- The canonical form: strictly rising addresses, all of them 0..4095, no entry holding 0. -/
def Memory.wf (m : Memory) : Bool := Memory.wfFrom 0 m

/-- `MemRead(a, 1)` (rule R10): it cannot fail. -/
def memRead (m : Memory) (a : Addr) : Word := Memory.read m a.toNat

/-- `MemWrite(a, 1, v)` (rule R10): it cannot fail. -/
def memWrite (m : Memory) (a : Addr) (v : Word) : Memory := Memory.write m a.toNat v

/-! ### Devices -/

/-- Whether the input device hands over a character (rule R187): FGI = 0 and the queue is not empty. -/
def takesChar (s : State) : Bool := !s.fgi && !s.inputQueue.isEmpty

/-- The input device update (rule R187). -/
def inputUpdate (s : State) : State :=
  { s with
    inpr := if takesChar s then s.inputQueue.headD s.inpr else s.inpr
    inputQueue := if takesChar s then s.inputQueue.tail else s.inputQueue
    fgi := if takesChar s then true else s.fgi }

/-- The host input `out_ready` at the present cycle start (rule R42; log entry 6). -/
def outReady (s : State) : Bool := s.outReadyScript.headD s.outReadyRest

/-- The output device update (rule R188): `if FGO = 0 and out_ready then FGO <- 1`. It uses up this cycle
start's value of `out_ready`. -/
def outputUpdate (s : State) : State :=
  { s with
    fgo := if !s.fgo && outReady s then true else s.fgo
    outReadyScript := s.outReadyScript.tail }

/-- The device update at the start of a cycle: input, then output (rule R113). -/
def deviceUpdate (s : State) : State := outputUpdate (inputUpdate s)

/-! ### Fetch and Decode -/

/-- T0, Fetch (rule R114): `AR <- PC; SC <- 1`. -/
def fetchT0 (s : State) : State := { s with ar := s.pc, sc := 1#4 }

/-- T1, Fetch (rule R115): `IR <- MemRead(AR, 1); PC <- PC + 1; SC <- 2`. -/
def fetchT1 (s : State) : State := { s with ir := memRead s.mem s.ar, pc := s.pc + 1#12, sc := 2#4 }

/-- The transfers of T2 for a word whose bit 15 is `i` and whose bits 11:0 are `a` (rule R116). -/
def decodePulse (i : Bool) (a : Addr) (s : State) : State := { s with flagI := i, ar := a, sc := 3#4 }

/-- T2, Decode (rule R116): `I <- IR[15]; AR <- IR[11:0]; SC <- 3`, the same for all three shapes. -/
def decodeT2 (s : State) : State := decodePulse (fieldI s.ir) (fieldAddr s.ir) s

/-- The start of an instruction cycle up to the fetched word: the device update, T0 and T1
(rules R113 to R115). -/
def fetchWord (s : State) : State := fetchT1 (fetchT0 (deviceUpdate s))

/-- `s` with a word stored where the next cycle fetches, and the core at a cycle boundary at which it will
fetch: SC = 0, R = 0, S = 0, FAULT = none (rule R114). It stands for the host's load (log entry 8). -/
def placeNextWord (w : Word) (s : State) : State :=
  { s with mem := memWrite s.mem s.pc w, sc := 0#4, flagR := false, flagS := false, faultReg := none }

/-! ### The end of a cycle -/

/-- The interrupt check (rule R206), on the values after the pulse's transfers (decision D7, log entry 12). -/
def interruptCheck (s : State) : State :=
  { s with flagR := if interruptRequest s.ien s.fgi s.fgo then true else s.flagR }

/-- The end of an instruction cycle (rule R121): `SC <- 0`, then the interrupt check. -/
def endCycle (s : State) : State := interruptCheck { s with sc := 0#4 }

/-! ### Exceptions -/

/-- RT0 (rule R207): `AR <- 0; TR <- zext_16(PC); SC <- 1`. -/
def interruptRT0 (s : State) : State := { s with ar := 0#12, tr := zext16 s.pc, sc := 1#4 }

/-- RT1 (rule R208): `MemWrite(AR, 1, TR); PC <- 0; SC <- 2`. -/
def interruptRT1 (s : State) : State := { s with mem := memWrite s.mem s.ar s.tr, pc := 0#12, sc := 2#4 }

/-- RT2 (rule R209): `PC <- PC + 1; IEN <- 0; R <- 0; SC <- 0`. -/
def interruptRT2 (s : State) : State :=
  { s with pc := s.pc + 1#12, ien := false, flagR := false, sc := 0#4 }

/-- Taking an interrupt (rule R210): the PC is saved in word 0, interrupts are disabled, control goes to
address 1. There is no return instruction beside it: a handler returns with `BUN 0 I`, whose meaning is
`execBun` (rule R212). -/
def takeInterrupt (s : State) : State := interruptRT2 (interruptRT1 (interruptRT0 s))

/-- The fault (rule R200): `FAULT <- InternalDecodeError(IR)` and nothing else; SC stays 3. Only reset/load
leaves it (rule R201), so nothing returns from it. -/
def raiseDecodeError (s : State) : State := { s with faultReg := some (.internalDecodeError s.ir) }

end Sys2Proof.Machine
end

