-- ==== Sys2Proof/Machine/Operands.lean ====
section
/-! DEFINITION. The operand forms: the effective address (41_memory_reference.md rule R142), the operand read
into DR, the skip, and the characters of the input/output instructions. -/

namespace Sys2Proof.Machine

/-- The effective address (rule R142): the address itself, or with I = 1 the low 12 bits of the word it
names. There is one level of indirection. -/
def effectiveAddress (m : Memory) (indirect : Bool) (a : Addr) : Addr :=
  if indirect then trunc12 (memRead m a) else a

/-- T3 of a memory-reference instruction: IndirectFetch with I = 1 (rule R117), idle with I = 0 (rule R118);
`SC <- 4` either way. -/
def addressT3 (s : State) : State := { s with ar := effectiveAddress s.mem s.flagI s.ar, sc := 4#4 }

/-- T4 of AND, ADD, LDA and ISZ (rules R143, R144, R145 and R149): `DR <- MemRead(AR, 1); SC <- 5`. -/
def loadT4 (s : State) : State := { s with dr := memRead s.mem s.ar, sc := 5#4 }

/-- The PC of a skip instruction: one more, modulo 4096, when the condition holds (40_cycle.md rule R124). -/
def skipPc (condition : Bool) (pc : Addr) : Addr := if condition then pc + 1#12 else pc

/-- `AC[7:0]`, the character OUT sends (43_input_output.md rule R182). -/
def acChar (ac : Word) : Char8 := ac.extractLsb' 0 8

/-- `AC[15:8] ++ c`, AC after INP (rule R181). -/
def acWithChar (ac : Word) (c : Char8) : Word := ac.extractLsb' 8 8 ++ c

/-- The pulses of an instruction from T3 on, performed in order: the rest of its cycle. -/
def runPulses (pulses : List (State → State)) (s : State) : State := pulses.foldl (fun t p => p t) s

end Sys2Proof.Machine
end

