-- ==== Sys2Proof/Machine/InputOutput.lean ====
section
/-! DEFINITION. The six input/output instructions (43_input_output.md rules R180 to R186). Each executes in the
single pulse T3, whatever the flags hold; its meaning is the Decode pulse T2 on the instruction's own word
(I = 1, AR = the select pattern), then T3, so it covers T2 to the end of the instruction's cycle. -/

namespace Sys2Proof.Machine

/-- T3 of INP (rule R181): `AC <- AC[15:8] ++ INPR; FGI <- 0; SC <- 0`. -/
def inpT3 (s : State) : State :=
  endCycle { s with ac := acWithChar s.ac s.inpr, fgi := false }

/-- T3 on (rule R181). -/
def inpPulses : List (State → State) := [inpT3]

/-- INP (rule R181), word `0xF800`. -/
def execInp (s : State) : Host.Outcome State Fault Refusal :=
  .next (runPulses inpPulses (decodePulse true 0x800#12 s))

/-- T3 of OUT (rule R182): `OUTR <- AC[7:0]; FGO <- 0; outputStream <- outputStream ++ [AC[7:0]]; SC <- 0`. -/
def outT3 (s : State) : State :=
  endCycle { s with outr := acChar s.ac, fgo := false, outputStream := s.outputStream ++ [acChar s.ac] }

/-- T3 on (rule R182). -/
def outPulses : List (State → State) := [outT3]

/-- OUT (rule R182), word `0xF400`. -/
def execOut (s : State) : Host.Outcome State Fault Refusal :=
  .next (runPulses outPulses (decodePulse true 0x400#12 s))

/-- T3 of SKI (rule R183): `if FGI = 1 then PC <- PC + 1; SC <- 0`. -/
def skiT3 (s : State) : State :=
  endCycle { s with pc := skipPc s.fgi s.pc }

/-- T3 on (rule R183). -/
def skiPulses : List (State → State) := [skiT3]

/-- SKI (rule R183), word `0xF200`. -/
def execSki (s : State) : Host.Outcome State Fault Refusal :=
  .next (runPulses skiPulses (decodePulse true 0x200#12 s))

/-- T3 of SKO (rule R184): `if FGO = 1 then PC <- PC + 1; SC <- 0`. -/
def skoT3 (s : State) : State :=
  endCycle { s with pc := skipPc s.fgo s.pc }

/-- T3 on (rule R184). -/
def skoPulses : List (State → State) := [skoT3]

/-- SKO (rule R184), word `0xF100`. -/
def execSko (s : State) : Host.Outcome State Fault Refusal :=
  .next (runPulses skoPulses (decodePulse true 0x100#12 s))

/-- T3 of ION (rule R185): `IEN <- 1; SC <- 0`; the check of this cycle reads IEN = 1. -/
def ionT3 (s : State) : State :=
  endCycle { s with ien := true }

/-- T3 on (rule R185). -/
def ionPulses : List (State → State) := [ionT3]

/-- ION (rule R185), word `0xF080`. -/
def execIon (s : State) : Host.Outcome State Fault Refusal :=
  .next (runPulses ionPulses (decodePulse true 0x080#12 s))

/-- T3 of IOF (rule R186): `IEN <- 0; SC <- 0`; the check of this cycle reads IEN = 0. -/
def iofT3 (s : State) : State :=
  endCycle { s with ien := false }

/-- T3 on (rule R186). -/
def iofPulses : List (State → State) := [iofT3]

/-- IOF (rule R186), word `0xF040`. -/
def execIof (s : State) : Host.Outcome State Fault Refusal :=
  .next (runPulses iofPulses (decodePulse true 0x040#12 s))

end Sys2Proof.Machine
end

