-- ==== Sys2Proof/Machine/MemoryReference.lean ====
section
/-! DEFINITION. The seven memory-reference instructions (41_memory_reference.md). Each is the list of its pulses from
T3 on; its meaning is the Decode pulse T2 on the instruction's own I bit and address field, then those pulses,
so it covers T2 to the end of the instruction's cycle. The split into pulses is the textbook's (decision D1,
log entry 10); the effect at the end of the cycle is the source's. -/

namespace Sys2Proof.Machine

/-- T5 of AND (rule R143): `AC <- alu_and(AC, DR); SC <- 0`. -/
def andT5 (s : State) : State :=
  endCycle { s with ac := aluAnd s.ac s.dr }

/-- T3 on (rule R143). -/
def andPulses : List (State → State) := [addressT3, loadT4, andT5]

/-- AND (rule R143): `AC <- AC AND M[EA]`; E unchanged. -/
def execAnd (indirect : Bool) (address : Addr) (s : State) : Host.Outcome State Fault Refusal :=
  .next (runPulses andPulses (decodePulse indirect address s))

/-- T5 of ADD (rule R144): `(AC, E) <- alu_add(AC, DR); SC <- 0`. -/
def addT5 (s : State) : State :=
  endCycle { s with ac := (aluAdd s.ac s.dr).1, e := (aluAdd s.ac s.dr).2 }

/-- T3 on (rule R144). -/
def addPulses : List (State → State) := [addressT3, loadT4, addT5]

/-- ADD (rule R144): `AC <- (AC + M[EA]) mod 2^16; E <- carry-out`. -/
def execAdd (indirect : Bool) (address : Addr) (s : State) : Host.Outcome State Fault Refusal :=
  .next (runPulses addPulses (decodePulse indirect address s))

/-- T5 of LDA (rule R145): `AC <- DR; SC <- 0`. -/
def ldaT5 (s : State) : State :=
  endCycle { s with ac := s.dr }

/-- T3 on (rule R145). -/
def ldaPulses : List (State → State) := [addressT3, loadT4, ldaT5]

/-- LDA (rule R145): `AC <- M[EA]`; E unchanged. -/
def execLda (indirect : Bool) (address : Addr) (s : State) : Host.Outcome State Fault Refusal :=
  .next (runPulses ldaPulses (decodePulse indirect address s))

/-- T4 of STA (rule R146): `MemWrite(AR, 1, AC); SC <- 0`. -/
def staT4 (s : State) : State :=
  endCycle { s with mem := memWrite s.mem s.ar s.ac }

/-- T3 on (rule R146). -/
def staPulses : List (State → State) := [addressT3, staT4]

/-- STA (rule R146): `M[EA] <- AC`; DR is not written. -/
def execSta (indirect : Bool) (address : Addr) (s : State) : Host.Outcome State Fault Refusal :=
  .next (runPulses staPulses (decodePulse indirect address s))

/-- T4 of BUN (rule R147): `PC <- AR; SC <- 0`. -/
def bunT4 (s : State) : State :=
  endCycle { s with pc := s.ar }

/-- T3 on (rule R147). -/
def bunPulses : List (State → State) := [addressT3, bunT4]

/-- BUN (rule R147): `PC <- EA`. With I = 1 and address 0 it is the return from an interrupt (rule R212). -/
def execBun (indirect : Bool) (address : Addr) (s : State) : Host.Outcome State Fault Refusal :=
  .next (runPulses bunPulses (decodePulse indirect address s))

/-- T4 of BSA (rule R148): `MemWrite(AR, 1, zext_16(PC)); AR <- AR + 1; SC <- 5`, both from the old AR. -/
def bsaT4 (s : State) : State :=
  { s with mem := memWrite s.mem s.ar (zext16 s.pc), ar := s.ar + 1#12, sc := 5#4 }

/-- T5 of BSA (rule R148): `PC <- AR; SC <- 0`. -/
def bsaT5 (s : State) : State :=
  endCycle { s with pc := s.ar }

/-- T3 on (rule R148). -/
def bsaPulses : List (State → State) := [addressT3, bsaT4, bsaT5]

/-- BSA (rule R148): `M[EA] <- zext_16(return); PC <- EA + 1`. -/
def execBsa (indirect : Bool) (address : Addr) (s : State) : Host.Outcome State Fault Refusal :=
  .next (runPulses bsaPulses (decodePulse indirect address s))

/-- T5 of ISZ (rule R149): `DR <- DR + 1; SC <- 6`. -/
def iszT5 (s : State) : State := { s with dr := s.dr + 1#16, sc := 6#4 }

/-- T6 of ISZ (rule R149): `MemWrite(AR, 1, DR); if DR = 0 then PC <- PC + 1; SC <- 0`. -/
def iszT6 (s : State) : State :=
  endCycle { s with mem := memWrite s.mem s.ar s.dr, pc := skipPc (isZero s.dr) s.pc }

/-- T3 on (rule R149). -/
def iszPulses : List (State → State) := [addressT3, loadT4, iszT5, iszT6]

/-- ISZ (rule R149): `M[EA] <- M[EA] + 1`, and skip if the result is 0; AC and E unchanged. -/
def execIsz (indirect : Bool) (address : Addr) (s : State) : Host.Outcome State Fault Refusal :=
  .next (runPulses iszPulses (decodePulse indirect address s))

end Sys2Proof.Machine
end

