-- ==== Sys2Proof/Machine/RegisterReference.lean ====
section
/-! DEFINITION. The twelve register-reference instructions (42_register_reference.md rules R160 to R172). Each
executes in the single pulse T3; its meaning is the Decode pulse T2 on the instruction's own word
(I = 0, AR = the select pattern, rule R160), then T3, so it covers T2 to the end of the instruction's cycle.
The exact operations of CLA to SZE are the spec's decision D5 (log entry 11). -/

namespace Sys2Proof.Machine

/-- T3 of CLA (rule R161): `AC <- 0; SC <- 0`. -/
def claT3 (s : State) : State :=
  endCycle { s with ac := 0#16 }

/-- T3 on (rule R161). -/
def claPulses : List (State → State) := [claT3]

/-- CLA (rule R161), word `0x7800`. -/
def execCla (s : State) : Host.Outcome State Fault Refusal :=
  .next (runPulses claPulses (decodePulse false 0x800#12 s))

/-- T3 of CLE (rule R162): `E <- 0; SC <- 0`. -/
def cleT3 (s : State) : State :=
  endCycle { s with e := false }

/-- T3 on (rule R162). -/
def clePulses : List (State → State) := [cleT3]

/-- CLE (rule R162), word `0x7400`. -/
def execCle (s : State) : Host.Outcome State Fault Refusal :=
  .next (runPulses clePulses (decodePulse false 0x400#12 s))

/-- T3 of CMA (rule R163): `AC <- ~AC; SC <- 0`. -/
def cmaT3 (s : State) : State :=
  endCycle { s with ac := ~~~s.ac }

/-- T3 on (rule R163). -/
def cmaPulses : List (State → State) := [cmaT3]

/-- CMA (rule R163), word `0x7200`. -/
def execCma (s : State) : Host.Outcome State Fault Refusal :=
  .next (runPulses cmaPulses (decodePulse false 0x200#12 s))

/-- T3 of CME (rule R164): `E <- ~E; SC <- 0`. -/
def cmeT3 (s : State) : State :=
  endCycle { s with e := !s.e }

/-- T3 on (rule R164). -/
def cmePulses : List (State → State) := [cmeT3]

/-- CME (rule R164), word `0x7100`. -/
def execCme (s : State) : Host.Outcome State Fault Refusal :=
  .next (runPulses cmePulses (decodePulse false 0x100#12 s))

/-- T3 of CIR (rule R165): `AC <- E ++ AC[15:1]; E <- AC[0]; SC <- 0`. -/
def cirT3 (s : State) : State :=
  endCycle { s with ac := (circulateRight s.ac s.e).1, e := (circulateRight s.ac s.e).2 }

/-- T3 on (rule R165). -/
def cirPulses : List (State → State) := [cirT3]

/-- CIR (rule R165), word `0x7080`. -/
def execCir (s : State) : Host.Outcome State Fault Refusal :=
  .next (runPulses cirPulses (decodePulse false 0x080#12 s))

/-- T3 of CIL (rule R166): `AC <- AC[14:0] ++ E; E <- AC[15]; SC <- 0`. -/
def cilT3 (s : State) : State :=
  endCycle { s with ac := (circulateLeft s.ac s.e).1, e := (circulateLeft s.ac s.e).2 }

/-- T3 on (rule R166). -/
def cilPulses : List (State → State) := [cilT3]

/-- CIL (rule R166), word `0x7040`. -/
def execCil (s : State) : Host.Outcome State Fault Refusal :=
  .next (runPulses cilPulses (decodePulse false 0x040#12 s))

/-- T3 of INC (rule R167): `AC <- AC + 1; SC <- 0`; E unchanged, on the wrap too. -/
def incT3 (s : State) : State :=
  endCycle { s with ac := s.ac + 1#16 }

/-- T3 on (rule R167). -/
def incPulses : List (State → State) := [incT3]

/-- INC (rule R167), word `0x7020`. -/
def execInc (s : State) : Host.Outcome State Fault Refusal :=
  .next (runPulses incPulses (decodePulse false 0x020#12 s))

/-- T3 of SPA (rule R168): `if AC[15] = 0 then PC <- PC + 1; SC <- 0`. -/
def spaT3 (s : State) : State :=
  endCycle { s with pc := skipPc (acPositive s.ac) s.pc }

/-- T3 on (rule R168). -/
def spaPulses : List (State → State) := [spaT3]

/-- SPA (rule R168), word `0x7010`. -/
def execSpa (s : State) : Host.Outcome State Fault Refusal :=
  .next (runPulses spaPulses (decodePulse false 0x010#12 s))

/-- T3 of SNA (rule R169): `if AC[15] = 1 then PC <- PC + 1; SC <- 0`. -/
def snaT3 (s : State) : State :=
  endCycle { s with pc := skipPc (acNegative s.ac) s.pc }

/-- T3 on (rule R169). -/
def snaPulses : List (State → State) := [snaT3]

/-- SNA (rule R169), word `0x7008`. -/
def execSna (s : State) : Host.Outcome State Fault Refusal :=
  .next (runPulses snaPulses (decodePulse false 0x008#12 s))

/-- T3 of SZA (rule R170): `if AC = 0 then PC <- PC + 1; SC <- 0`. -/
def szaT3 (s : State) : State :=
  endCycle { s with pc := skipPc (isZero s.ac) s.pc }

/-- T3 on (rule R170). -/
def szaPulses : List (State → State) := [szaT3]

/-- SZA (rule R170), word `0x7004`. -/
def execSza (s : State) : Host.Outcome State Fault Refusal :=
  .next (runPulses szaPulses (decodePulse false 0x004#12 s))

/-- T3 of SZE (rule R171): `if E = 0 then PC <- PC + 1; SC <- 0`. -/
def szeT3 (s : State) : State :=
  endCycle { s with pc := skipPc (!s.e) s.pc }

/-- T3 on (rule R171). -/
def szePulses : List (State → State) := [szeT3]

/-- SZE (rule R171), word `0x7002`. -/
def execSze (s : State) : Host.Outcome State Fault Refusal :=
  .next (runPulses szePulses (decodePulse false 0x002#12 s))

/-- T3 of HLT (rule R172): `S <- 1; SC <- 0`, with no interrupt check (decision D8, log entry 13). -/
def hltT3 (s : State) : State :=
  { s with flagS := true, sc := 0#4 }

/-- T3 on (rule R172). -/
def hltPulses : List (State → State) := [hltT3]

/-- HLT (rule R172), word `0x7001`. The core is then Halted. -/
def execHlt (s : State) : Host.Outcome State Fault Refusal :=
  .next (runPulses hltPulses (decodePulse false 0x001#12 s))

end Sys2Proof.Machine
end

