-- ==== Sys2Proof/Machine/Dispatch.lean ====
section
/-! DEFINITION. The dispatch of 40_cycle.md rule R122: one arm per instruction. -/

namespace Sys2Proof.Machine

/-- The meaning of an instruction from its Decode pulse T2 to the end of its cycle, the interrupt check
included: what `step` does with a decoded word after the two Fetch pulses. -/
def exec (i : Instr) (s : State) : Host.Outcome State Fault Refusal :=
  match i with
  | .and indirect address => Sys2Proof.Machine.execAnd indirect address s
  | .add indirect address => Sys2Proof.Machine.execAdd indirect address s
  | .lda indirect address => Sys2Proof.Machine.execLda indirect address s
  | .sta indirect address => Sys2Proof.Machine.execSta indirect address s
  | .bun indirect address => Sys2Proof.Machine.execBun indirect address s
  | .bsa indirect address => Sys2Proof.Machine.execBsa indirect address s
  | .isz indirect address => Sys2Proof.Machine.execIsz indirect address s
  | .cla => Sys2Proof.Machine.execCla s
  | .cle => Sys2Proof.Machine.execCle s
  | .cma => Sys2Proof.Machine.execCma s
  | .cme => Sys2Proof.Machine.execCme s
  | .cir => Sys2Proof.Machine.execCir s
  | .cil => Sys2Proof.Machine.execCil s
  | .inc => Sys2Proof.Machine.execInc s
  | .spa => Sys2Proof.Machine.execSpa s
  | .sna => Sys2Proof.Machine.execSna s
  | .sza => Sys2Proof.Machine.execSza s
  | .sze => Sys2Proof.Machine.execSze s
  | .hlt => Sys2Proof.Machine.execHlt s
  | .inp => Sys2Proof.Machine.execInp s
  | .out => Sys2Proof.Machine.execOut s
  | .ski => Sys2Proof.Machine.execSki s
  | .sko => Sys2Proof.Machine.execSko s
  | .ion => Sys2Proof.Machine.execIon s
  | .iof => Sys2Proof.Machine.execIof s

end Sys2Proof.Machine
end

