-- ==== Sys2Proof/Machine/Sequencer.lean ====
section
/-! DEFINITION. The sequencer (40_cycle.md): which pulse each state performs, and the host's two grains of
stepping, the micro-step (one pulse, rule R126) and the macro-step (the rest of the current cycle, rule R128).
Also the two whole cycles that `step` is made of. -/

namespace Sys2Proof.Machine

/-- The Execute pulses of an instruction, T3 on (rules R117 to R120 and the instruction rules). -/
def pulsesOf : Instr → List (State → State)
  | .and _ _ => andPulses
  | .add _ _ => addPulses
  | .lda _ _ => ldaPulses
  | .sta _ _ => staPulses
  | .bun _ _ => bunPulses
  | .bsa _ _ => bsaPulses
  | .isz _ _ => iszPulses
  | .cla => claPulses
  | .cle => clePulses
  | .cma => cmaPulses
  | .cme => cmePulses
  | .cir => cirPulses
  | .cil => cilPulses
  | .inc => incPulses
  | .spa => spaPulses
  | .sna => snaPulses
  | .sza => szaPulses
  | .sze => szePulses
  | .hlt => hltPulses
  | .inp => inpPulses
  | .out => outPulses
  | .ski => skiPulses
  | .sko => skoPulses
  | .ion => ionPulses
  | .iof => iofPulses

/-- The micro-steps of an instruction's cycle (rule R123): T0, T1, T2 and its own. -/
def pulseCount (i : Instr) : Nat := 3 + (pulsesOf i).length

/-- The pulse of an instruction cycle with SC = 3 or more (rules R117 to R120 and R122): the one that the
instruction in IR has at that SC, or the fault at T3 of an undefined word (rule R200). `none` where
rule R110 lists no pulse (log entry 4). -/
def executePulse (s : State) : Option State :=
  match decode s.ir with
  | .ok i => (pulsesOf i)[s.sc.toNat - 3]?.map (fun p => p s)
  | .error _ => if s.sc = 3#4 then some (raiseDecodeError s) else none

/-- The one pulse that rule R110 selects, with the device update first if SC = 0 (rule R113) and the interrupt
check after it if it ends an instruction cycle (rule R121). `none` where rule R110 lists no pulse (log entry 4). -/
def pulse (s : State) : Option State :=
  if s.flagR then
    match s.sc.toNat with
    | 0 => some (interruptRT0 (deviceUpdate s))
    | 1 => some (interruptRT1 s)
    | 2 => some (interruptRT2 s)
    | _ => none
  else
    match s.sc.toNat with
    | 0 => some (fetchT0 (deviceUpdate s))
    | 1 => some (fetchT1 s)
    | 2 => some (decodeT2 s)
    | _ => executePulse s

/-- The outcome of a step (00_scope.md rule R13): a pulse was performed, or the core is Halted or Faulted and
nothing changed. `noPulse` is the model's, for the states no run reaches (log entry 4). -/
inductive StepKind where
  | stepped
  | halted
  | faulted (reason : Fault)
  | noPulse (sc : BitVec 4)
  deriving DecidableEq, Repr

/-- What a micro-step or macro-step returns: the outcome of its last pulse, the state, and how many pulses it
performed (rules R126 and R128). -/
structure StepResult where
  kind : StepKind
  state : State
  pulses : Nat
  deriving DecidableEq, Repr

/-- `microStep()` (rule R126). -/
def microStep (s : State) : StepResult :=
  match s.faultReg with
  | some f => ⟨.faulted f, s, 0⟩
  | none =>
    if s.flagS then ⟨.halted, s, 0⟩
    else
      match pulse s with
      | some t => ⟨.stepped, t, 1⟩
      | none => ⟨.noPulse s.sc, s, 0⟩

/-- Where a macro-step stops (rule R128): SC = 0 again, or the core is Halted or Faulted. -/
def cycleDone (s : State) : Bool := s.sc == 0#4 || s.flagS || s.faultReg.isSome

/-- `microStep()` at least once, until `cycleDone`, at most `fuel` times. -/
def microSteps : Nat → State → StepResult
  | 0, s => ⟨.stepped, s, 0⟩
  | fuel + 1, s =>
    match (microStep s).kind with
    | .stepped =>
      if cycleDone (microStep s).state then microStep s
      else
        let rest := microSteps fuel (microStep s).state
        ⟨rest.kind, rest.state, 1 + rest.pulses⟩
    | _ => microStep s

/-- The pulses of the longest cycle, T0 to T6 (rule R123). -/
def longestCycle : Nat := 7

/-- `macroStep()` (rule R128). -/
def macroStep (s : State) : StepResult := microSteps longestCycle s

/-- The host's reading of a step's outcome in the three outcomes of Host.Core: a Halted core stays as it is
(log entry 2), a Faulted one answers its fault (log entry 3). -/
def StepResult.outcome (r : StepResult) : Host.Outcome State Fault Refusal :=
  match r.kind with
  | .stepped => .next r.state
  | .halted => .next r.state
  | .faulted f => .fault f
  | .noPulse sc => .refused (.noPulse sc)

/-- A whole instruction cycle from its boundary: Fetch, then the decoded instruction; an undefined word is
decoded (T2) and faults at T3, the fault being recorded in the next state (rules R114 to R122 and R200). -/
def instructionCycle (s : State) : Host.Outcome State Fault Refusal :=
  match decode (fetchWord s).ir with
  | .ok i => exec i (fetchWord s)
  | .error _ => .next (raiseDecodeError (decodeT2 (fetchWord s)))

/-- A whole interrupt cycle from its boundary (rules R112, R113 and R207 to R209). -/
def interruptCycle (s : State) : Host.Outcome State Fault Refusal := .next (takeInterrupt (deviceUpdate s))

/-- The rest of the current cycle of a core that is neither Halted nor Faulted: a whole interrupt or
instruction cycle at a boundary (rule R112), the remaining pulses in the middle of one (rule R128). -/
def restOfCycle (s : State) : Host.Outcome State Fault Refusal :=
  if s.sc = 0#4 then (if s.flagR then interruptCycle s else instructionCycle s)
  else (macroStep s).outcome

/-- The source states a host can see (rule R111). -/
inductive Phase where
  | faulted
  | halted
  | interrupt
  | fetch
  | decode
  | indirectFetch
  | execute
  deriving DecidableEq, Repr

/-- `phase(s)` (rule R111), a function of the state and not a register of its own. -/
def phase (s : State) : Phase :=
  if s.faultReg.isSome then .faulted
  else if s.flagS then .halted
  else if s.flagR then .interrupt
  else if s.sc = 0#4 || s.sc = 1#4 then .fetch
  else if s.sc = 2#4 then .decode
  else if s.sc = 3#4 && fieldOp s.ir ≠ 7#3 then .indirectFetch
  else .execute

end Sys2Proof.Machine
end

