-- ==== Sys2Proof/Machine/HostInterface.lean ====
section
/-! DEFINITION. What the host can do between micro-steps beside stepping (40_cycle.md rules R125, R129 and R131,
70_reset_and_hazards.md rules R230 to R232, 43_input_output.md rule R190, 10_state.md rule R44): run under a
bound, reset and load, push a character, supply `out_ready`, and read the snapshot. There is no move that
writes a register, a flag or memory directly (rule R131). -/

namespace Sys2Proof.Machine

/-! ### run (rule R129) -/

/-- How a run stops. `noPulse` is the model's, as in `StepKind` (log entry 4). -/
inductive RunOutcome where
  | halted
  | faulted (reason : Fault)
  | budgetExhausted
  | breakpoint (pc : Addr)
  | noPulse (sc : BitVec 4)
  deriving DecidableEq, Repr

/-- What `run` returns: how it stopped, the state, and `n`, the pulses it performed. -/
structure RunResult where
  outcome : RunOutcome
  state : State
  pulses : Nat
  deriving DecidableEq, Repr

/-- Whether a run stops at a breakpoint: SC = 0, R = 0 and a PC that is one (rule R129). S is not asked: after a
macro-step that executed HLT the run answers the breakpoint, as the loop of rule R129 has it, although rule R132 says
that a core stopped at one can still step (DESIGN CHOICE, log entry 22). -/
def atBreakpoint (breakpoints : List Addr) (s : State) : Bool :=
  s.sc == 0#4 && !s.flagR && breakpoints.contains s.pc

/-- The loop of `run`, with `n` pulses performed so far. Every turn performs at least one pulse, so `fuel` turns
with `fuel` at least the budget never run out before the budget does. -/
def runLoop (budget : Nat) (breakpoints : List Addr) : Nat → Nat → State → RunResult
  | 0, n, s =>
    match s.faultReg with
    | some f => ⟨.faulted f, s, n⟩
    | none => if s.flagS then ⟨.halted, s, n⟩ else ⟨.budgetExhausted, s, n⟩
  | fuel + 1, n, s =>
    match s.faultReg with
    | some f => ⟨.faulted f, s, n⟩
    | none =>
      if s.flagS then ⟨.halted, s, n⟩
      else if budget ≤ n then ⟨.budgetExhausted, s, n⟩
      else
        match (macroStep s).kind with
        | .noPulse sc => ⟨.noPulse sc, (macroStep s).state, n + (macroStep s).pulses⟩
        | _ =>
          if atBreakpoint breakpoints (macroStep s).state then
            ⟨.breakpoint (macroStep s).state.pc, (macroStep s).state, n + (macroStep s).pulses⟩
          else runLoop budget breakpoints fuel (n + (macroStep s).pulses) (macroStep s).state

/-- `run(budget, breakpoints)` (rule R129): macro-steps until Halted, Faulted, the budget of micro-steps, or a
breakpoint. -/
def run (budget : Nat) (breakpoints : List Addr) (s : State) : RunResult :=
  runLoop budget breakpoints budget 0 s

/-! ### Reset, load and input (rules R190, R230 and R231) -/

/-- Why the interface refuses a host action, which then changes nothing (rules R190 and R231). -/
inductive HostRefusal where
  | addressOutOfRange
  | wordOutOfRange
  | entryOutOfRange
  | charOutOfRange
  deriving DecidableEq, Repr

/-- The memory that a list of pairs loads, in list order, so the later of two pairs for one address wins
(rule R231). -/
def loadPairs (pairs : List (Nat × Nat)) (m : Memory) : Memory :=
  pairs.foldl (fun m p => Memory.write m p.1 (BitVec.ofNat 16 p.2)) m

/-- `resetLoad(pairs, entry)` (rules R230 and R231), the only reset: every piece of core state and both streams
are cleared, the pairs are loaded into zeroed memory, and PC is the entry address. A value out of range
refuses the whole load. `out_ready` is the host's (rule R42) and is not touched. -/
def resetLoad (pairs : List (Nat × Nat)) (entry : Nat) (s : State) : Except HostRefusal State :=
  if pairs.any (fun p => decide (Config.memWords ≤ p.1)) then .error .addressOutOfRange
  else if pairs.any (fun p => decide (Config.wordValues ≤ p.2)) then .error .wordOutOfRange
  else if Config.memWords ≤ entry then .error .entryOutOfRange
  else
    .ok { State.reset with
      mem := loadPairs pairs []
      pc := BitVec.ofNat 12 entry
      outReadyScript := s.outReadyScript
      outReadyRest := s.outReadyRest }

/-- `pushInput(c)` (rule R190): append a character to the input queue, in any state, and change nothing else;
a value that is no 8-bit character is refused. -/
def pushInput (c : Nat) (s : State) : Except HostRefusal State :=
  if Config.charValues ≤ c then .error .charOutOfRange
  else .ok { s with inputQueue := s.inputQueue ++ [BitVec.ofNat 8 c] }

/-- The host supplies `out_ready` for the coming cycle starts: the values of `script`, the next cycle start
first, then `rest` for ever (rules R42 and R131; log entry 6). -/
def supplyOutReady (script : List Bool) (rest : Bool) (s : State) : State :=
  { s with outReadyScript := script, outReadyRest := rest }

/-! ### The snapshot (rules R31 and R44) -/

/-- The `registers` group of the snapshot; `time` is SC. -/
structure SnapshotRegisters where
  ac : Word
  ar : Addr
  dr : Word
  ir : Word
  pc : Addr
  tr : Word
  inpr : Char8
  outr : Char8
  time : BitVec 4
  deriving DecidableEq, Repr

/-- The `flags` group of the snapshot (rule R31: I, S, E, R, IEN, FGI, FGO). -/
structure SnapshotFlags where
  indirection : Bool
  stop : Bool
  overflow : Bool
  interrupt : Bool
  interruptEnable : Bool
  input : Bool
  output : Bool
  deriving DecidableEq, Repr

/-- The snapshot (rule R44), with FAULT beside it (rule R38). -/
structure Snapshot where
  memory : Vector Word 4096
  registers : SnapshotRegisters
  flags : SnapshotFlags
  inputStream : List Char8
  outputStream : List Char8
  faultRegister : Option Fault
  deriving DecidableEq, Repr

/-- `snapshot()`: a read-only copy (rules R44 and R131). -/
def snapshot (s : State) : Snapshot where
  memory := Vector.ofFn (fun a => Memory.read s.mem a.val)
  registers := ⟨s.ac, s.ar, s.dr, s.ir, s.pc, s.tr, s.inpr, s.outr, s.sc⟩
  flags := ⟨s.flagI, s.flagS, s.e, s.flagR, s.ien, s.fgi, s.fgo⟩
  inputStream := s.inputQueue
  outputStream := s.outputStream
  faultRegister := s.faultReg

end Sys2Proof.Machine
end

