-- ==== Sys2Proof/Machine/Step.lean ====
section
/-! DEFINITION. One step of the machine: one macro-step (40_cycle.md rule R128), that is one whole instruction or
interrupt cycle at a cycle boundary, the rest of the cycle in the middle of one (log entry 1). -/

namespace Sys2Proof.Machine

/-- A Faulted core answers its fault and changes nothing (rules R126 and R201); a Halted core stays as it is
(rules R126 and R127); any other core performs the rest of its current cycle. -/
def step (s : State) : Host.Outcome State Fault Refusal :=
  match s.faultReg with
  | some f => .fault f
  | none => if s.flagS then .next s else restOfCycle s

/-- `s` with the instruction word stored where the next step fetches (log entry 8). -/
def State.withFetchWord (s : State) (nbits w : Nat) : State :=
  placeNextWord (BitVec.ofNat 16 (w % 2 ^ nbits)) s

end Sys2Proof.Machine
end

