-- ==== Sys2Proof/Safety.lean ====
section
/-! DEFINITION. What counts as a legal state and as a good end of a run, in the terms the statements use
(10_state.md rule R45, 40_cycle.md rule R132). -/

namespace Sys2Proof.Machine

/-- The core performs pulses: it is neither Halted nor Faulted (rule R126). -/
abbrev Running (s : State) : Prop := s.faultReg = none ∧ s.flagS = false

/-- A run ends well in a Halted core that is not Faulted (rule R132). -/
abbrev EndedWell (s : State) : Prop := s.flagS = true ∧ s.faultReg = none

/-- A cycle boundary: the next pulse starts a cycle (00_scope.md rule R15). -/
abbrev AtBoundary (s : State) : Prop := s.sc = 0#4

/-- R after an interrupt check on the values `s` holds (60_exceptions.md rule R206): set if IEN = 1 and FGI or FGO
is 1, else as it was. -/
abbrev checkedR (s : State) : Bool := s.flagR || (s.ien && (s.fgi || s.fgo))

/-- Rule R45, items 1, 2, 3 and 5. (Item 4 is about steps, not states.) -/
abbrev LegalControl (s : State) : Prop :=
  s.sc.toNat ≤ 6 ∧
  (s.flagR = true → s.sc.toNat ≤ 2) ∧
  ¬(s.flagS = true ∧ s.faultReg ≠ none) ∧
  (4 ≤ s.sc.toNat → s.flagR = false ∧ fieldOp s.ir ≠ 7#3)

/-- The pulse that SC names is one the instruction in IR has (rule R110): T3 for every word, T4 on for the
instructions that have it. -/
def pulseListed (s : State) : Bool :=
  match decode s.ir with
  | .ok i => decide (s.sc.toNat < pulseCount i)
  | .error _ => decide (s.sc.toNat ≤ 3)

/-- What the pulses before the present one have left behind: the fetch or save address (rules R114, R207 and
R208), the decoded fields (rule R116), a saved PC whose bits 15:12 are 0 (rule R207). -/
abbrev CycleProgress (s : State) : Prop :=
  (3 ≤ s.sc.toNat → pulseListed s = true) ∧
  (3 ≤ s.sc.toNat → s.flagI = fieldI s.ir) ∧
  (s.sc = 3#4 → s.ar = fieldAddr s.ir) ∧
  (s.sc = 1#4 → s.flagR = false → s.ar = s.pc) ∧
  (s.sc ≠ 0#4 → s.flagR = true → s.ar = 0#12) ∧
  (s.sc = 2#4 → s.flagR = true → s.pc = 0#12) ∧
  s.tr.extractLsb' 12 4 = 0#4

/-- R is set only with IEN = 1 and both are cleared together (rules R206 and R209); a Halted core is at a cycle
boundary with R = 0 (rule R172). -/
abbrev PendingAndHalted (s : State) : Prop :=
  (s.flagR = true → s.ien = true) ∧
  (s.flagS = true → s.sc = 0#4 ∧ s.flagR = false)

/-- A recorded fault is the one of the undefined word in IR, at T3 of an instruction cycle (rule R200). -/
def faultRecorded (s : State) : Bool :=
  match s.faultReg with
  | none => true
  | some f =>
    decide (f = .internalDecodeError s.ir) && decide (s.sc = 3#4) && !s.flagR && (decode s.ir).toOption.isNone

/-- The invariant of the model: rule R45, what the pulses leave behind, and the canonical form of memory. -/
def Inv (s : State) : Prop :=
  Memory.wf s.mem = true ∧ LegalControl s ∧ CycleProgress s ∧ PendingAndHalted s ∧ faultRecorded s = true

end Sys2Proof.Machine
end

