-- ==== Sys2Proof/Certificates/Slice0/Obligations.lean ====
section
/-! DEFINITION. The statements for the provers. Each docstring names the rules of spec/ it formalises, and the log
entry of every clause that rests on a decision of the spec's own or a choice of the model's. -/

open Sys2Proof Sys2Proof.Machine

/-- Rules R81 and R86. -/
def Obligations.MemoryReferenceWordsHoldIOpcodeAndAddress : Prop :=
  (∀ i a, encode (.and i a) = BitVec.ofBool i ++ 0#3 ++ a) ∧
  (∀ i a, encode (.add i a) = BitVec.ofBool i ++ 1#3 ++ a) ∧
  (∀ i a, encode (.lda i a) = BitVec.ofBool i ++ 2#3 ++ a) ∧
  (∀ i a, encode (.sta i a) = BitVec.ofBool i ++ 3#3 ++ a) ∧
  (∀ i a, encode (.bun i a) = BitVec.ofBool i ++ 4#3 ++ a) ∧
  (∀ i a, encode (.bsa i a) = BitVec.ofBool i ++ 5#3 ++ a) ∧
  (∀ i a, encode (.isz i a) = BitVec.ofBool i ++ 6#3 ++ a) ∧
  encode (.add false 0x006#12) = 0x1006#16 ∧ encode (.add true 0x006#12) = 0x9006#16

/-- The tables of rules R87 and R88, which the spec marks as its own decision D4 (log entry 9). -/
def Obligations.OneHotWordsDecodeToTheirInstructions : Prop :=
  (decode 0x7800#16 = .ok .cla ∧ encode .cla = 0x7800#16) ∧
  (decode 0x7400#16 = .ok .cle ∧ encode .cle = 0x7400#16) ∧
  (decode 0x7200#16 = .ok .cma ∧ encode .cma = 0x7200#16) ∧
  (decode 0x7100#16 = .ok .cme ∧ encode .cme = 0x7100#16) ∧
  (decode 0x7080#16 = .ok .cir ∧ encode .cir = 0x7080#16) ∧
  (decode 0x7040#16 = .ok .cil ∧ encode .cil = 0x7040#16) ∧
  (decode 0x7020#16 = .ok .inc ∧ encode .inc = 0x7020#16) ∧
  (decode 0x7010#16 = .ok .spa ∧ encode .spa = 0x7010#16) ∧
  (decode 0x7008#16 = .ok .sna ∧ encode .sna = 0x7008#16) ∧
  (decode 0x7004#16 = .ok .sza ∧ encode .sza = 0x7004#16) ∧
  (decode 0x7002#16 = .ok .sze ∧ encode .sze = 0x7002#16) ∧
  (decode 0x7001#16 = .ok .hlt ∧ encode .hlt = 0x7001#16) ∧
  (decode 0xF800#16 = .ok .inp ∧ encode .inp = 0xF800#16) ∧
  (decode 0xF400#16 = .ok .out ∧ encode .out = 0xF400#16) ∧
  (decode 0xF200#16 = .ok .ski ∧ encode .ski = 0xF200#16) ∧
  (decode 0xF100#16 = .ok .sko ∧ encode .sko = 0xF100#16) ∧
  (decode 0xF080#16 = .ok .ion ∧ encode .ion = 0xF080#16) ∧
  (decode 0xF040#16 = .ok .iof ∧ encode .iof = 0xF040#16)

/-- Rule R89 against rule R122. -/
def Obligations.DecodeOfEncodeIsTheInstruction : Prop :=
  ∀ i : Instr, i.wellFormed = true → decode (encode i) = .ok i

/-- Rules R89 and R91: no two words decode to one instruction, and no bit of a defined word is ignored. -/
def Obligations.EncodeOfDecodeIsTheWord : Prop :=
  ∀ (w : Word) (i : Instr), decode w = .ok i → encode i = w

/-- Rule R90; it rests on the select bits of decision D4 (log entry 9). -/
def Obligations.UndefinedWordsAreThoseWithoutOneSelect : Prop :=
  (∀ w : Word, (∃ e, decode w = .error e) ↔
    (fieldOp w = 7#3 ∧ ¬∃ k, k < 12 ∧ (fieldI w = true → 6 ≤ k) ∧ fieldAddr w = 1#12 <<< k)) ∧
  (∀ w : Word, decode w = .error .noSelect ↔ (fieldOp w = 7#3 ∧ fieldAddr w = 0#12)) ∧
  (∀ w : Word, decode w = .error .ioLowSelect ↔
    (fieldOp w = 7#3 ∧ fieldI w = true ∧ ∃ k, k < 6 ∧ fieldAddr w = 1#12 <<< k)) ∧
  (∀ w : Word, decode w = .error .severalSelects ↔
    (fieldOp w = 7#3 ∧ ∃ j k, j < k ∧ k < 12 ∧ (fieldAddr w).getLsbD j = true ∧ (fieldAddr w).getLsbD k = true))

/-- Rule R84. -/
def Obligations.OpcodeAndIBitSelectTheShape : Prop :=
  ∀ w : Word,
    (fieldOp w ≠ 7#3 → ∃ i, decode w = .ok i ∧
      i ∈ [Instr.and (fieldI w) (fieldAddr w), .add (fieldI w) (fieldAddr w), .lda (fieldI w) (fieldAddr w),
        .sta (fieldI w) (fieldAddr w), .bun (fieldI w) (fieldAddr w), .bsa (fieldI w) (fieldAddr w),
        .isz (fieldI w) (fieldAddr w)]) ∧
    (fieldOp w = 7#3 → fieldI w = false → ∀ i, decode w = .ok i →
      i ∈ [Instr.cla, .cle, .cma, .cme, .cir, .cil, .inc, .spa, .sna, .sza, .sze, .hlt]) ∧
    (fieldOp w = 7#3 → fieldI w = true → ∀ i, decode w = .ok i →
      i ∈ [Instr.inp, .out, .ski, .sko, .ion, .iof])

/-- Rules R140 and R141. -/
def Obligations.AluAddGivesSumAndCarryOut : Prop :=
  (∀ (a b : Word) (k : Nat), k < 16 → (aluAnd a b).getLsbD k = (a.getLsbD k && b.getLsbD k)) ∧
  (∀ a b : Word, (aluAdd a b).1.toNat + 65536 * (aluAdd a b).2.toNat = a.toNat + b.toNat) ∧
  (∀ (s : State) (i : Bool) (a : Addr), ∃ t, exec (.and i a) s = .next t ∧
    (t.e, t.flagS, t.ien, t.fgi, t.fgo) = (s.e, s.flagS, s.ien, s.fgi, s.fgo)) ∧
  (∀ (s : State) (i : Bool) (a : Addr), ∃ t, exec (.add i a) s = .next t ∧
    (t.flagS, t.ien, t.fgi, t.fgo) = (s.flagS, s.ien, s.fgi, s.fgo))

/-- Rules R114 to R117. The pulse as the grain of a micro-step is the spec's decision D1 (log entry 10), the low 12 bits
kept of the pointer its decision D18 (log entry 14). -/
def Obligations.FetchDecodeAndIndirectPulses : Prop :=
  ∀ s : State, Running s → s.flagR = false →
    (s.sc = 0#4 → microStep s = ⟨.stepped, { deviceUpdate s with ar := s.pc, sc := 1#4 }, 1⟩) ∧
    (s.sc = 1#4 → microStep s =
      ⟨.stepped, { s with ir := memRead s.mem s.ar, pc := BitVec.ofNat 12 ((s.pc.toNat + 1) % 4096), sc := 2#4 }, 1⟩) ∧
    (s.sc = 1#4 → Inv s → s.ar = s.pc) ∧
    (s.sc = 2#4 → microStep s =
      ⟨.stepped, { s with flagI := s.ir.getLsbD 15, ar := s.ir.extractLsb' 0 12, sc := 3#4 }, 1⟩) ∧
    (s.sc = 3#4 → fieldOp s.ir ≠ 7#3 → s.flagI = true → microStep s =
      ⟨.stepped, { s with ar := (memRead s.mem s.ar).extractLsb' 0 12, sc := 4#4 }, 1⟩)

/-- Rule R118, the spec's decision D1 (log entry 10). -/
def Obligations.DirectReferenceSpendsAnIdlePulse : Prop :=
  ∀ s : State, Running s → s.flagR = false → s.sc = 3#4 → fieldOp s.ir ≠ 7#3 → s.flagI = false →
    microStep s = ⟨.stepped, { s with sc := 4#4 }, 1⟩

/-- Rule R187. -/
def Obligations.CycleStartUpdatesTheInputDevice : Prop :=
  (∀ (s : State) (c : Char8) (q : List Char8), Running s → s.sc = 0#4 → s.fgi = false → s.inputQueue = c :: q →
    (microStep s).kind = .stepped ∧ (microStep s).state.inpr = c ∧ (microStep s).state.inputQueue = q ∧
      (microStep s).state.fgi = true) ∧
  (∀ s : State, Running s → s.sc = 0#4 → (s.fgi = true ∨ s.inputQueue = []) →
    (microStep s).kind = .stepped ∧ (microStep s).state.inpr = s.inpr ∧
      (microStep s).state.inputQueue = s.inputQueue ∧ (microStep s).state.fgi = s.fgi) ∧
  (∀ s : State, (s.sc ≠ 0#4 ∨ ¬Running s) →
    (microStep s).state.inpr = s.inpr ∧ (microStep s).state.inputQueue = s.inputQueue ∧
      ((microStep s).state.fgi = true → s.fgi = true))

/-- Rule R188, the spec's decision D9 (log entry 15); the script is the model's form of the host input `out_ready` (log entry 6). -/
def Obligations.CycleStartUpdatesTheOutputDevice : Prop :=
  (∀ (s : State) (b : Bool) (bs : List Bool), Running s → s.sc = 0#4 → s.outReadyScript = b :: bs →
    (microStep s).state.fgo = (s.fgo || b) ∧ (microStep s).state.outReadyScript = bs ∧
      (microStep s).state.outReadyRest = s.outReadyRest) ∧
  (∀ s : State, Running s → s.sc = 0#4 → s.outReadyScript = [] →
    (microStep s).state.fgo = (s.fgo || s.outReadyRest) ∧ (microStep s).state.outReadyScript = [] ∧
      (microStep s).state.outReadyRest = s.outReadyRest) ∧
  (∀ s : State, (s.sc ≠ 0#4 ∨ ¬Running s) →
    ((microStep s).state.fgo = true → s.fgo = true) ∧
      (microStep s).state.outReadyScript = s.outReadyScript ∧ (microStep s).state.outReadyRest = s.outReadyRest)

/-- Rule R143: the word, the pulses, the effect of the instruction. The split into pulses is the spec's decision D1
(log entry 10), the moment of the check its decision D7 (log entry 12). -/
def Obligations.AndConjoinsTheOperandIntoAc : Prop :=
  (∀ i a, encode (.and i a) = BitVec.ofBool i ++ 0#3 ++ a) ∧
  (∀ (s : State) (i : Bool) (a : Addr), Running s → s.flagR = false → decode s.ir = .ok (.and i a) →
    (s.sc = 4#4 → microStep s = ⟨.stepped, { s with dr := memRead s.mem s.ar, sc := 5#4 }, 1⟩) ∧
    (s.sc = 5#4 → microStep s = ⟨.stepped, { s with ac := s.ac &&& s.dr, sc := 0#4, flagR := checkedR s }, 1⟩)) ∧
  (∀ (s : State) (i : Bool) (a ea : Addr), effectiveAddress s.mem i a = ea → exec (.and i a) s = .next { s with
    flagI := i, ar := ea, dr := memRead s.mem ea, ac := s.ac &&& memRead s.mem ea,
    sc := 0#4, flagR := checkedR s })

/-- Rule R144: the word, the pulses, the effect of the instruction. The split into pulses is the spec's decision D1
(log entry 10), the moment of the check its decision D7 (log entry 12). -/
def Obligations.AddSumsTheOperandIntoAcAndE : Prop :=
  (∀ i a, encode (.add i a) = BitVec.ofBool i ++ 1#3 ++ a) ∧
  (∀ (s : State) (i : Bool) (a : Addr), Running s → s.flagR = false → decode s.ir = .ok (.add i a) →
    (s.sc = 4#4 → microStep s = ⟨.stepped, { s with dr := memRead s.mem s.ar, sc := 5#4 }, 1⟩) ∧
    (s.sc = 5#4 → microStep s = ⟨.stepped, { s with
      ac := s.ac + s.dr, e := decide (65536 ≤ s.ac.toNat + s.dr.toNat), sc := 0#4, flagR := checkedR s }, 1⟩)) ∧
  (∀ (s : State) (i : Bool) (a ea : Addr), effectiveAddress s.mem i a = ea → exec (.add i a) s = .next { s with
    flagI := i, ar := ea, dr := memRead s.mem ea, ac := s.ac + memRead s.mem ea,
    e := decide (65536 ≤ s.ac.toNat + (memRead s.mem ea).toNat), sc := 0#4, flagR := checkedR s })

/-- Rule R145: the word, the pulses, the effect of the instruction. The split into pulses is the spec's decision D1
(log entry 10), the moment of the check its decision D7 (log entry 12). -/
def Obligations.LdaLoadsTheOperandIntoAc : Prop :=
  (∀ i a, encode (.lda i a) = BitVec.ofBool i ++ 2#3 ++ a) ∧
  (∀ (s : State) (i : Bool) (a : Addr), Running s → s.flagR = false → decode s.ir = .ok (.lda i a) →
    (s.sc = 4#4 → microStep s = ⟨.stepped, { s with dr := memRead s.mem s.ar, sc := 5#4 }, 1⟩) ∧
    (s.sc = 5#4 → microStep s = ⟨.stepped, { s with ac := s.dr, sc := 0#4, flagR := checkedR s }, 1⟩)) ∧
  (∀ (s : State) (i : Bool) (a ea : Addr), effectiveAddress s.mem i a = ea → exec (.lda i a) s = .next { s with
    flagI := i, ar := ea, dr := memRead s.mem ea, ac := memRead s.mem ea,
    sc := 0#4, flagR := checkedR s })

/-- Rule R146: the word, the pulses, the effect of the instruction. The split into pulses is the spec's decision D1
(log entry 10), the moment of the check its decision D7 (log entry 12). -/
def Obligations.StaStoresAcAtTheEffectiveAddress : Prop :=
  (∀ i a, encode (.sta i a) = BitVec.ofBool i ++ 3#3 ++ a) ∧
  (∀ (s : State) (i : Bool) (a : Addr), Running s → s.flagR = false → decode s.ir = .ok (.sta i a) →
    (s.sc = 4#4 → microStep s = ⟨.stepped, { s with mem := memWrite s.mem s.ar s.ac, sc := 0#4, flagR := checkedR s }, 1⟩)) ∧
  (∀ (s : State) (i : Bool) (a ea : Addr), effectiveAddress s.mem i a = ea → exec (.sta i a) s = .next { s with
    flagI := i, ar := ea, mem := memWrite s.mem ea s.ac, sc := 0#4, flagR := checkedR s }) ∧
  (∀ (s : State) (a : Addr), Memory.wf s.mem = true → memRead (memWrite s.mem a s.ac) a = s.ac)

/-- Rule R147: the word, the pulses, the effect of the instruction. The split into pulses is the spec's decision D1
(log entry 10), the moment of the check its decision D7 (log entry 12). -/
def Obligations.BunBranchesToTheEffectiveAddress : Prop :=
  (∀ i a, encode (.bun i a) = BitVec.ofBool i ++ 4#3 ++ a) ∧
  (∀ (s : State) (i : Bool) (a : Addr), Running s → s.flagR = false → decode s.ir = .ok (.bun i a) →
    (s.sc = 4#4 → microStep s = ⟨.stepped, { s with pc := s.ar, sc := 0#4, flagR := checkedR s }, 1⟩)) ∧
  (∀ (s : State) (i : Bool) (a ea : Addr), effectiveAddress s.mem i a = ea → exec (.bun i a) s = .next { s with
    flagI := i, ar := ea, pc := ea, sc := 0#4, flagR := checkedR s })

/-- Rule R148; the zero bits 15:12 of the saved word are the spec's decision D18 (log entry 14), the split into pulses its
decision D1 (log entry 10), the moment of the check its decision D7 (log entry 12). -/
def Obligations.BsaSavesTheReturnAddressAndBranches : Prop :=
  (∀ i a, encode (.bsa i a) = BitVec.ofBool i ++ 5#3 ++ a) ∧
  (∀ (s : State) (i : Bool) (a : Addr), Running s → s.flagR = false → decode s.ir = .ok (.bsa i a) →
    (s.sc = 4#4 → microStep s = ⟨.stepped, { s with mem := memWrite s.mem s.ar (0#4 ++ s.pc), ar := s.ar + 1#12, sc := 5#4 }, 1⟩) ∧
    (s.sc = 5#4 → microStep s = ⟨.stepped, { s with pc := s.ar, sc := 0#4, flagR := checkedR s }, 1⟩)) ∧
  (∀ (s : State) (i : Bool) (a ea : Addr), effectiveAddress s.mem i a = ea → exec (.bsa i a) s = .next { s with
    flagI := i, ar := ea + 1#12, mem := memWrite s.mem ea (0#4 ++ s.pc),
    pc := ea + 1#12, sc := 0#4, flagR := checkedR s }) ∧
  (∀ (s : State) (a : Addr), Memory.wf s.mem = true →
    memRead (memWrite s.mem a (0#4 ++ s.pc)) a = 0#4 ++ s.pc)

/-- Rule R149: the word, the pulses, the effect of the instruction. The split into pulses is the spec's decision D1
(log entry 10), the moment of the check its decision D7 (log entry 12). -/
def Obligations.IszIncrementsMemoryAndSkipsOnZero : Prop :=
  (∀ i a, encode (.isz i a) = BitVec.ofBool i ++ 6#3 ++ a) ∧
  (∀ (s : State) (i : Bool) (a : Addr), Running s → s.flagR = false → decode s.ir = .ok (.isz i a) →
    (s.sc = 4#4 → microStep s = ⟨.stepped, { s with dr := memRead s.mem s.ar, sc := 5#4 }, 1⟩) ∧
    (s.sc = 5#4 → microStep s = ⟨.stepped, { s with dr := s.dr + 1#16, sc := 6#4 }, 1⟩) ∧
    (s.sc = 6#4 → microStep s = ⟨.stepped, { s with
      mem := memWrite s.mem s.ar s.dr, pc := if s.dr = 0#16 then s.pc + 1#12 else s.pc, sc := 0#4, flagR := checkedR s }, 1⟩)) ∧
  (∀ (s : State) (i : Bool) (a ea : Addr), effectiveAddress s.mem i a = ea → exec (.isz i a) s = .next { s with
    flagI := i, ar := ea, dr := memRead s.mem ea + 1#16,
    mem := memWrite s.mem ea (memRead s.mem ea + 1#16),
    pc := if memRead s.mem ea = 0xFFFF#16 then s.pc + 1#12 else s.pc, sc := 0#4, flagR := checkedR s }) ∧
  (∀ (s : State) (a : Addr), Memory.wf s.mem = true →
    memRead (memWrite s.mem a (memRead s.mem a + 1#16)) a = memRead s.mem a + 1#16) ∧
  (∀ (i : Bool) (a : Addr), encode (.isz i a) ≠ 0xFFFF#16) ∧
  encode (.isz false 0xFFF#12) + 1#16 = 0x7000#16 ∧ decode 0x7000#16 = .error .noSelect

/-- Rule R142; that bits 15:12 of the pointer are ignored is the spec's decision D18 (log entry 14). -/
def Obligations.EffectiveAddressIsDirectOrOneLevelIndirect : Prop :=
  (∀ (m : Memory) (a : Addr), effectiveAddress m false a = a) ∧
  (∀ (m : Memory) (a p : Addr) (high : BitVec 4), memRead m a = high ++ p → effectiveAddress m true a = p)

/-- Rules R161, R162, R163, R164 and R167, the spec's decisions D5 (log entry 11) and D4 (log entry 9). -/
def Obligations.ClearsAndComplementsAct : Prop :=
  (∀ s : State, exec .cla s = .next { s with
    flagI := false, ar := 0x800#12, ac := 0#16, sc := 0#4, flagR := checkedR s }) ∧
  (∀ s : State, exec .cle s = .next { s with
    flagI := false, ar := 0x400#12, e := false, sc := 0#4, flagR := checkedR s }) ∧
  (∀ s : State, exec .cma s = .next { s with
    flagI := false, ar := 0x200#12, ac := 0xFFFF#16 - s.ac, sc := 0#4, flagR := checkedR s }) ∧
  (∀ s : State, exec .cme s = .next { s with
    flagI := false, ar := 0x100#12, e := !s.e, sc := 0#4, flagR := checkedR s }) ∧
  (∀ s : State, exec .inc s = .next { s with
    flagI := false, ar := 0x020#12, ac := BitVec.ofNat 16 ((s.ac.toNat + 1) % 65536), sc := 0#4, flagR := checkedR s })

/-- Rules R165 and R166, the spec's decisions D5 (log entry 11) and D4 (log entry 9). -/
def Obligations.CirculatesRotateAcThroughE : Prop :=
  (∀ s : State, exec .cir s = .next { s with
    flagI := false, ar := 0x080#12, ac := BitVec.ofNat 16 (s.ac.toNat / 2 + 32768 * s.e.toNat),
    e := s.ac.getLsbD 0, sc := 0#4, flagR := checkedR s }) ∧
  (∀ s : State, exec .cil s = .next { s with
    flagI := false, ar := 0x040#12, ac := BitVec.ofNat 16 (2 * s.ac.toNat + s.e.toNat),
    e := s.ac.getLsbD 15, sc := 0#4, flagR := checkedR s })

/-- Corner cases of rules R165 and R166 (decision D5, log entry 11). -/
def Obligations.SeventeenCirculatesRestoreAcAndE : Prop :=
  (∀ s t u : State, exec .cir s = .next t → exec .cil t = .next u → u.ac = s.ac ∧ u.e = s.e) ∧
  (∀ s t u : State, exec .cil s = .next t → exec .cir t = .next u → u.ac = s.ac ∧ u.e = s.e) ∧
  (∀ (ac : Word) (e : Bool), (fun p : Word × Bool => circulateRight p.1 p.2)^[17] (ac, e) = (ac, e))

/-- A corner case of rule R163 (decision D5, log entry 11). -/
def Obligations.ComplementThenIncrementNegates : Prop :=
  ∀ s t u : State, exec .cma s = .next t → exec .inc t = .next u → u.ac + s.ac = 0#16 ∧ u.e = s.e

/-- Rules R168 to R171, the spec's decisions D5 (log entry 11) and D4 (log entry 9). -/
def Obligations.SkipsTestAcAndE : Prop :=
  (∀ s : State, exec .spa s = .next { s with
    flagI := false, ar := 0x010#12, pc := if s.ac.toNat < 0x8000 then s.pc + 1#12 else s.pc, sc := 0#4, flagR := checkedR s }) ∧
  (∀ s : State, exec .sna s = .next { s with
    flagI := false, ar := 0x008#12, pc := if 0x8000 ≤ s.ac.toNat then s.pc + 1#12 else s.pc, sc := 0#4, flagR := checkedR s }) ∧
  (∀ s : State, exec .sza s = .next { s with
    flagI := false, ar := 0x004#12, pc := if s.ac = 0#16 then s.pc + 1#12 else s.pc, sc := 0#4, flagR := checkedR s }) ∧
  (∀ s : State, exec .sze s = .next { s with
    flagI := false, ar := 0x002#12, pc := if s.e = false then s.pc + 1#12 else s.pc, sc := 0#4, flagR := checkedR s })

/-- Rule R172, the spec's decisions D8 (log entry 13) and D4 (log entry 9). -/
def Obligations.HltSetsStopWithoutAnInterruptCheck : Prop :=
  ∀ s : State, exec .hlt s = .next { s with flagI := false, ar := 0x001#12, flagS := true, sc := 0#4 }

/-- Rule R181; select bit: decision D4 (log entry 9); the check after the instruction: decision D7 (log entry 12). -/
def Obligations.InpCopiesInprAndClearsFgi : Prop :=
  (∀ s : State, exec .inp s = .next { s with
    flagI := true, ar := 0x800#12, ac := s.ac.extractLsb' 8 8 ++ s.inpr,
    fgi := false, sc := 0#4, flagR := s.flagR || (s.ien && s.fgo) })

/-- Rule R182; decisions D9 (log entry 15), D4 (log entry 9) and D7 (log entry 12). -/
def Obligations.OutSendsTheLowCharacterOfAc : Prop :=
  (∀ s : State, exec .out s = .next { s with
    flagI := true, ar := 0x400#12, outr := BitVec.ofNat 8 s.ac.toNat, fgo := false,
    outputStream := s.outputStream ++ [BitVec.ofNat 8 s.ac.toNat], sc := 0#4, flagR := s.flagR || (s.ien && s.fgi) })

/-- Rules R183 and R184; select bits: decision D4 (log entry 9). -/
def Obligations.SkiAndSkoTestTheDeviceFlags : Prop :=
  (∀ s : State, exec .ski s = .next { s with
    flagI := true, ar := 0x200#12, pc := if s.fgi = true then s.pc + 1#12 else s.pc, sc := 0#4, flagR := checkedR s }) ∧
  (∀ s : State, exec .sko s = .next { s with
    flagI := true, ar := 0x100#12, pc := if s.fgo = true then s.pc + 1#12 else s.pc, sc := 0#4, flagR := checkedR s })

/-- Rules R185 and R186; decisions D7 (log entry 12) and D4 (log entry 9). -/
def Obligations.IonAndIofSwitchInterrupts : Prop :=
  (∀ s : State, exec .ion s = .next { s with
    flagI := true, ar := 0x080#12, ien := true, sc := 0#4, flagR := s.flagR || (s.fgi || s.fgo) }) ∧
  (∀ s : State, exec .iof s = .next { s with
    flagI := true, ar := 0x040#12, ien := false, sc := 0#4, flagR := s.flagR })

/-- Rules R160 and R180: each instruction writes only what its rule names. -/
def Obligations.RegisterAndIoInstructionFrame : Prop :=
  ∀ i ∈ [Instr.cla, .cle, .cma, .cme, .cir, .cil, .inc, .spa, .sna, .sza, .sze, .hlt,
      .inp, .out, .ski, .sko, .ion, .iof],
    ∀ s : State, ∃ t, exec i s = .next t ∧
      (∀ a, memRead t.mem a = memRead s.mem a) ∧
      (t.dr, t.ir, t.tr, t.inpr, t.faultReg) = (s.dr, s.ir, s.tr, s.inpr, s.faultReg) ∧
      (t.inputQueue, t.outReadyScript, t.outReadyRest) = (s.inputQueue, s.outReadyScript, s.outReadyRest) ∧
      (i ∉ [Instr.cla, .cma, .cir, .cil, .inc, .inp] → t.ac = s.ac) ∧
      (i ∉ [Instr.cle, .cme, .cir, .cil] → t.e = s.e) ∧
      (i ∉ [Instr.spa, .sna, .sza, .sze, .ski, .sko] → t.pc = s.pc) ∧
      (i ≠ .out → t.outr = s.outr ∧ t.outputStream = s.outputStream ∧ t.fgo = s.fgo) ∧
      (i ≠ .inp → t.fgi = s.fgi) ∧
      (i ≠ .ion → i ≠ .iof → t.ien = s.ien) ∧
      (i ≠ .hlt → t.flagS = s.flagS) ∧
      (s.flagR = true → t.flagR = true)

/-- Rule R150 and the flags lines of rules R143 to R149; the I, AR, SC and R that the cycle itself writes are not the instruction's. -/
def Obligations.MemoryReferenceInstructionFrame : Prop :=
  ∀ (ind : Bool) (a : Addr),
    ∀ i ∈ [Instr.and ind a, .add ind a, .lda ind a, .sta ind a, .bun ind a, .bsa ind a, .isz ind a],
    ∀ s : State, ∃ t, exec i s = .next t ∧
      (t.ir, t.tr, t.inpr, t.outr, t.faultReg) = (s.ir, s.tr, s.inpr, s.outr, s.faultReg) ∧
      (t.flagS, t.ien, t.fgi, t.fgo) = (s.flagS, s.ien, s.fgi, s.fgo) ∧
      (t.inputQueue, t.outputStream, t.outReadyScript, t.outReadyRest) =
        (s.inputQueue, s.outputStream, s.outReadyScript, s.outReadyRest) ∧
      (i ∉ [Instr.and ind a, .add ind a, .lda ind a] → t.ac = s.ac) ∧
      (i ≠ .add ind a → t.e = s.e) ∧
      (i ∉ [Instr.and ind a, .add ind a, .lda ind a, .isz ind a] → t.dr = s.dr) ∧
      (i ∉ [Instr.bun ind a, .bsa ind a, .isz ind a] → t.pc = s.pc) ∧
      (i ∉ [Instr.sta ind a, .bsa ind a, .isz ind a] → ∀ b, memRead t.mem b = memRead s.mem b) ∧
      (∀ ea, effectiveAddress s.mem ind a = ea → ∀ b, b ≠ ea → memRead t.mem b = memRead s.mem b)

/-- Rules R113 to R115 and R128; one step is one macro-step (log entry 1). -/
def Obligations.StepRunsTheDecodedInstruction : Prop :=
  ∀ (s : State) (i : Instr), Running s → AtBoundary s → s.flagR = false →
    decode (memRead s.mem s.pc) = .ok i → i.wellFormed = true →
    step s = exec i { deviceUpdate s with ar := s.pc, ir := memRead s.mem s.pc, pc := s.pc + 1#12, sc := 2#4 }

/-- Rule R200, the spec's decision D6 (log entry 3). -/
def Obligations.UndefinedWordRecordsTheFault : Prop :=
  (∀ (s : State) (e : DecodeError), Running s → s.flagR = false → s.sc = 3#4 → decode s.ir = .error e →
    microStep s = ⟨.stepped, { s with faultReg := some (.internalDecodeError s.ir) }, 1⟩) ∧
  (∀ (s : State) (w : Word) (e : DecodeError), Running s → AtBoundary s → s.flagR = false →
    memRead s.mem s.pc = w → decode w = .error e →
    step s = .next { deviceUpdate s with
      ar := w.extractLsb' 0 12, flagI := w.getLsbD 15, ir := w, pc := s.pc + 1#12, sc := 3#4,
      faultReg := some (.internalDecodeError w) })

/-- Rules R207 to R211; the pulse split is decision D1 (log entry 10), the zero bits 15:12 decision D18 (log entry 14). -/
def Obligations.InterruptCycleSavesPcAndVectorsToOne : Prop :=
  (∀ s : State, Running s → s.flagR = true →
    (s.sc = 0#4 → microStep s = ⟨.stepped, { deviceUpdate s with ar := 0#12, tr := 0#4 ++ s.pc, sc := 1#4 }, 1⟩) ∧
    (s.sc = 1#4 → microStep s = ⟨.stepped, { s with mem := memWrite s.mem s.ar s.tr, pc := 0#12, sc := 2#4 }, 1⟩) ∧
    (s.sc = 2#4 → microStep s =
      ⟨.stepped, { s with pc := s.pc + 1#12, ien := false, flagR := false, sc := 0#4 }, 1⟩)) ∧
  (∀ s : State, Running s → AtBoundary s → s.flagR = true →
    step s = .next { deviceUpdate s with
      mem := memWrite s.mem 0#12 (0#4 ++ s.pc), ar := 0#12, tr := 0#4 ++ s.pc, pc := 1#12,
      ien := false, flagR := false, sc := 0#4 }) ∧
  (∀ s : State, Memory.wf s.mem = true → memRead (memWrite s.mem 0#12 (0#4 ++ s.pc)) 0#12 = 0#4 ++ s.pc) ∧
  (∀ (s : State) (a : Addr), a ≠ 0#12 → memRead (memWrite s.mem 0#12 (0#4 ++ s.pc)) a = memRead s.mem a)

/-- Rule R212. -/
def Obligations.BunZeroIndirectReturnsFromTheInterrupt : Prop :=
  encode (.bun true 0#12) = 0xC000#16 ∧
  ∀ s : State, Running s → AtBoundary s → s.flagR = true → Memory.wf s.mem = true →
    ∃ t, step s = .next t ∧ ∀ u : State, memRead u.mem 0#12 = memRead t.mem 0#12 →
      ∃ v, exec (.bun true 0#12) u = .next v ∧ v.pc = s.pc

/-- Rule R237; it rests on decision D7 (log entry 12), and the zero bits 15:12 of the saved word on decision D18
(log entry 14). -/
def Obligations.InterruptIsTakenRightAfterIon : Prop :=
  ∀ s : State, Running s → AtBoundary s → s.flagR = false → Memory.wf s.mem = true →
    decode (memRead s.mem s.pc) = .ok .ion →
    ∃ t, step s = .next t ∧ t.ien = true ∧ t.flagR = (t.fgi || t.fgo) ∧
      ((t.fgi || t.fgo) = true → ∃ u, step t = .next u ∧ u.pc = 1#12 ∧ u.ien = false ∧ u.flagR = false ∧
        memRead u.mem 0#12 = 0#4 ++ (s.pc + 1#12))

/-- Rules R119, R160 and R180. -/
def Obligations.RegisterAndIoInstructionsExecuteInOnePulse : Prop :=
  ∀ (s : State) (i : Instr), Running s → s.flagR = false → s.sc = 3#4 → fieldOp s.ir = 7#3 → decode s.ir = .ok i →
    s.flagI = fieldI s.ir → s.ar = fieldAddr s.ir →
    (microStep s).kind = .stepped ∧ (microStep s).pulses = 1 ∧ exec i s = .next (microStep s).state ∧
      (microStep s).state.sc = 0#4

/-- Rules R126, R127, R201 and R221: the spec's decisions D6, D12 and D20 (log entries 3 and 18); step's reading of the two outcomes is
the model's (log entries 2 and 3). -/
def Obligations.HaltedAndFaultedCoresStayAsTheyAre : Prop :=
  (∀ (s : State) (f : Fault), s.faultReg = some f →
    microStep s = ⟨.faulted f, s, 0⟩ ∧ macroStep s = ⟨.faulted f, s, 0⟩ ∧ step s = .fault f ∧
      ∀ budget breakpoints, run budget breakpoints s = ⟨.faulted f, s, 0⟩) ∧
  (∀ s : State, s.faultReg = none → s.flagS = true →
    microStep s = ⟨.halted, s, 0⟩ ∧ macroStep s = ⟨.halted, s, 0⟩ ∧ step s = .next s ∧
      ∀ budget breakpoints, run budget breakpoints s = ⟨.halted, s, 0⟩)

/-- Rules R110, R126 and R128 against the meanings of the instructions. That `step` is one macro-step, and that it tells
Halted as `next` and Faulted as `fault`, is the model's choice (log entries 1, 2 and 3). -/
def Obligations.StepIsTheMacroStep : Prop :=
  ∀ s : State, step s = (macroStep s).outcome

/-- Rule R130. -/
def Obligations.GranularityDoesNotChangeTheResult : Prop :=
  (∀ s : State, (macroStep s).state = (fun u => (microStep u).state)^[(macroStep s).pulses] s) ∧
  (∀ (s : State) (budget : Nat) (breakpoints : List Addr),
    (run budget breakpoints s).state = (fun u => (microStep u).state)^[(run budget breakpoints s).pulses] s)

/-- Rule R129, the spec's decision D14 (log entry 18). The last clause leaves a run from a legal state the four outcomes
of the rule; `noPulse` is the model's (log entry 4), and so is a breakpoint told of a Halted core (log entry 22). -/
def Obligations.RunObeysItsBudget : Prop :=
  ∀ (s : State) (budget : Nat) (breakpoints : List Addr),
    (run budget breakpoints s).pulses ≤ budget + 6 ∧
    (run 0 breakpoints s).pulses = 0 ∧
    ((run budget breakpoints s).outcome = .halted → EndedWell (run budget breakpoints s).state) ∧
    (∀ f, (run budget breakpoints s).outcome = .faulted f → (run budget breakpoints s).state.faultReg = some f) ∧
    ((run budget breakpoints s).outcome = .budgetExhausted →
      budget ≤ (run budget breakpoints s).pulses ∧ Running (run budget breakpoints s).state) ∧
    (∀ a, (run budget breakpoints s).outcome = .breakpoint a →
      (run budget breakpoints s).state.sc = 0#4 ∧ (run budget breakpoints s).state.flagR = false ∧
        (run budget breakpoints s).state.pc = a ∧ a ∈ breakpoints) ∧
    (Inv s → ∀ sc, (run budget breakpoints s).outcome ≠ .noPulse sc)

/-- Rule R123, the spec's decision D1 (log entry 10). -/
def Obligations.CyclesTakeTheirNumberOfPulses : Prop :=
  ∀ s : State, Running s → AtBoundary s →
    (s.flagR = true → (macroStep s).pulses = 3) ∧
    (s.flagR = false → ∀ i a,
      (decode (memRead s.mem s.pc) ∈ [.ok (.and i a), .ok (.add i a), .ok (.lda i a), .ok (.bsa i a)] →
        (macroStep s).pulses = 6) ∧
      (decode (memRead s.mem s.pc) ∈ [.ok (.sta i a), .ok (.bun i a)] → (macroStep s).pulses = 5) ∧
      (decode (memRead s.mem s.pc) = .ok (.isz i a) → (macroStep s).pulses = 7)) ∧
    (s.flagR = false → fieldOp (memRead s.mem s.pc) = 7#3 → (macroStep s).pulses = 4)

/-- Rule R111, the spec's decision D1 (log entry 10). -/
def Obligations.PhaseNamesTheSourceState : Prop :=
  ∀ s : State,
    (phase s = .faulted ↔ s.faultReg ≠ none) ∧
    (phase s = .halted ↔ EndedWell s) ∧
    (Running s → (phase s = .interrupt ↔ s.flagR = true)) ∧
    (Running s → s.flagR = false →
      (phase s = .fetch ↔ s.sc.toNat ≤ 1) ∧
      (phase s = .decode ↔ s.sc.toNat = 2) ∧
      (phase s = .indirectFetch ↔ s.sc.toNat = 3 ∧ fieldOp s.ir ≠ 7#3) ∧
      (phase s = .execute ↔ (s.sc.toNat = 3 ∧ fieldOp s.ir = 7#3) ∨ 4 ≤ s.sc.toNat))

/-- Rules R45 and R46; `Inv` is the model's (Safety.lean). -/
def Obligations.ResetMeetsTheInvariant : Prop :=
  Inv State.reset

/-- Rule R45 as an inductive invariant. -/
def Obligations.EveryStepKeepsTheInvariant : Prop :=
  ∀ s t : State, Inv s → step s = .next t → Inv t

/-- Rules R45 and R110; with it, no reachable state is one of those the model refuses (log entry 4). -/
def Obligations.EveryMicroStepKeepsTheInvariant : Prop :=
  ∀ s : State, Inv s → Inv (microStep s).state ∧ ∀ sc, (microStep s).kind ≠ .noPulse sc

/-- Rules R13 and R202. That a Halted core and the faulting pulse answer `next`, and a Faulted core the fault, is the
model's reading of R13's three outcomes (log entries 2 and 3, DESIGN CHOICE); the fault itself is decision D6. -/
def Obligations.StepsAnswerNoRefusalAndOnlyTheRecordedFault : Prop :=
  ∀ s : State, Inv s →
    (s.faultReg = none → ∃ t, step s = .next t) ∧
    (∀ f, s.faultReg = some f → step s = .fault f) ∧
    ∀ r, step s ≠ .refused r

/-- Rules R131, R190 and R230. -/
def Obligations.HostActionsKeepTheInvariant : Prop :=
  (∀ (s t : State) (pairs : List (Nat × Nat)) (entry : Nat), resetLoad pairs entry s = .ok t → Inv t) ∧
  (∀ (s t : State) (c : Nat), Inv s → pushInput c s = .ok t → Inv t) ∧
  (∀ (s : State) (script : List Bool) (rest : Bool), Inv s → Inv (supplyOutReady script rest s))

/-- The 'written by' lists of rules R21 to R29. -/
def Obligations.RegistersHaveOnlyTheirWriters : Prop :=
  ∀ s t : State, t = (microStep s).state →
    (t.ac ≠ s.ac → s.flagR = false ∧ ∃ i, decode s.ir = .ok i ∧
      ((s.sc = 5#4 ∧ ∃ d a, i ∈ [Instr.and d a, .add d a, .lda d a]) ∨
        (s.sc = 3#4 ∧ i ∈ [Instr.cla, .cma, .cir, .cil, .inc, .inp]))) ∧
    (t.e ≠ s.e → s.flagR = false ∧ ∃ i, decode s.ir = .ok i ∧
      ((s.sc = 5#4 ∧ ∃ d a, i = .add d a) ∨ (s.sc = 3#4 ∧ i ∈ [Instr.cle, .cme, .cir, .cil]))) ∧
    (t.dr ≠ s.dr → s.flagR = false ∧ ∃ i d a, decode s.ir = .ok i ∧
      ((s.sc = 4#4 ∧ i ∈ [Instr.and d a, .add d a, .lda d a, .isz d a]) ∨ (s.sc = 5#4 ∧ i = .isz d a))) ∧
    (t.ir ≠ s.ir → s.flagR = false ∧ s.sc = 1#4) ∧
    (t.tr ≠ s.tr → s.flagR = true ∧ s.sc = 0#4) ∧
    (t.inpr ≠ s.inpr → s.sc = 0#4 ∧ s.fgi = false ∧ s.inputQueue ≠ []) ∧
    (t.outr ≠ s.outr → s.flagR = false ∧ s.sc = 3#4 ∧ decode s.ir = .ok .out) ∧
    (t.ar ≠ s.ar → s.sc = 0#4 ∨ (s.flagR = false ∧ (s.sc = 2#4 ∨ (s.sc = 3#4 ∧ fieldOp s.ir ≠ 7#3 ∧ s.flagI = true) ∨
      (s.sc = 4#4 ∧ ∃ d a, decode s.ir = .ok (.bsa d a))))) ∧
    (t.pc ≠ s.pc → (s.flagR = true ∧ (s.sc = 1#4 ∨ s.sc = 2#4)) ∨ (s.flagR = false ∧ (s.sc = 1#4 ∨
      ∃ i, decode s.ir = .ok i ∧ ((s.sc = 4#4 ∧ ∃ d a, i = .bun d a) ∨ (s.sc = 5#4 ∧ ∃ d a, i = .bsa d a) ∨
        (s.sc = 6#4 ∧ ∃ d a, i = .isz d a) ∨ (s.sc = 3#4 ∧ i ∈ [Instr.spa, .sna, .sza, .sze, .ski, .sko])))))

/-- Rules R32 to R38, R204 and R205. R set on the values after the pulse is decision D7 (log entry 12), not by HLT D8
(log entry 13), FGO set at a cycle start D9 (log entry 15), FAULT D6 (log entry 3). -/
def Obligations.FlagsHaveOnlyTheirWriters : Prop :=
  ∀ s t : State, t = (microStep s).state →
    (t.flagI ≠ s.flagI → s.flagR = false ∧ s.sc = 2#4) ∧
    (t.flagS ≠ s.flagS → s.flagR = false ∧ s.sc = 3#4 ∧ decode s.ir = .ok .hlt ∧ t.flagS = true) ∧
    (t.flagR ≠ s.flagR →
      (t.flagR = true ∧ 3 ≤ s.sc.toNat ∧ t.sc = 0#4 ∧ t.ien = true ∧ (t.fgi || t.fgo) = true ∧
        decode s.ir ≠ .ok .hlt ∧ ∃ i, decode s.ir = .ok i) ∨
      (t.flagR = false ∧ s.sc = 2#4)) ∧
    (t.ien ≠ s.ien →
      (s.flagR = false ∧ s.sc = 3#4 ∧ decode s.ir = .ok .ion ∧ t.ien = true) ∨
      (s.flagR = false ∧ s.sc = 3#4 ∧ decode s.ir = .ok .iof ∧ t.ien = false) ∨
      (s.flagR = true ∧ s.sc = 2#4 ∧ t.ien = false)) ∧
    (t.fgi ≠ s.fgi → (t.fgi = true ∧ s.sc = 0#4) ∨
      (t.fgi = false ∧ s.flagR = false ∧ s.sc = 3#4 ∧ decode s.ir = .ok .inp)) ∧
    (t.fgo ≠ s.fgo → (t.fgo = true ∧ s.sc = 0#4) ∨
      (t.fgo = false ∧ s.flagR = false ∧ s.sc = 3#4 ∧ decode s.ir = .ok .out)) ∧
    (t.faultReg ≠ s.faultReg → s.flagR = false ∧ s.sc = 3#4 ∧ (∃ e, decode s.ir = .error e) ∧
      t.faultReg = some (.internalDecodeError s.ir))

/-- The writing rows of rule R61. -/
def Obligations.MemoryIsWrittenOnlyAtArByItsFourPulses : Prop :=
  ∀ s t : State, t = (microStep s).state →
    (∀ a, a ≠ s.ar → memRead t.mem a = memRead s.mem a) ∧
    (t.mem ≠ s.mem →
      (s.flagR = true ∧ s.sc = 1#4) ∨
      (s.flagR = false ∧ s.sc = 4#4 ∧ ∃ d a, decode s.ir = .ok (.sta d a)) ∨
      (s.flagR = false ∧ s.sc = 4#4 ∧ ∃ d a, decode s.ir = .ok (.bsa d a)) ∨
      (s.flagR = false ∧ s.sc = 6#4 ∧ ∃ d a, decode s.ir = .ok (.isz d a)))

/-- Rule R189. -/
def Obligations.OutputStreamIsAppendedOnlyByOut : Prop :=
  (∀ s : State,
    ((Running s ∧ s.flagR = false ∧ s.sc = 3#4 ∧ decode s.ir = .ok .out) →
      (microStep s).state.outputStream = s.outputStream ++ [s.ac.extractLsb' 0 8]) ∧
    (¬(Running s ∧ s.flagR = false ∧ s.sc = 3#4 ∧ decode s.ir = .ok .out) →
      (microStep s).state.outputStream = s.outputStream)) ∧
  (∀ (s : State) (o : List Char8),
    (microStep { s with outputStream := o }).kind = (microStep s).kind ∧
    (microStep { s with outputStream := o }).pulses = (microStep s).pulses ∧
    { (microStep { s with outputStream := o }).state with outputStream := [] } =
      { (microStep s).state with outputStream := [] })

/-- Rule R190, the spec's decision D19 (log entry 18). -/
def Obligations.PushInputOnlyLengthensTheQueue : Prop :=
  ∀ (s : State) (c : Nat),
    (c < 256 → pushInput c s = .ok { s with inputQueue := s.inputQueue ++ [BitVec.ofNat 8 c] }) ∧
    (256 ≤ c → pushInput c s = .error .charOutOfRange)

/-- Rules R190, R214 and R240 (order of events: decision D24, log entry 16). -/
def Obligations.PushInputCommutesWithThePulsesThatDoNotTakeIt : Prop :=
  ∀ (s t : State) (c : Nat), pushInput c s = .ok t →
    (¬Running s ∨ s.sc ≠ 0#4 ∨ s.fgi = true ∨ s.inputQueue ≠ []) →
    (microStep t).kind = (microStep s).kind ∧ pushInput c (microStep s).state = .ok (microStep t).state

/-- Rules R230 and R231, the spec's decisions D10 and D11 (log entry 7). -/
def Obligations.ResetLoadClearsThenLoadsInOrder : Prop :=
  ∀ (s : State) (pairs : List (Nat × Nat)) (entry : Nat),
    (∀ p ∈ pairs, p.1 < 4096 ∧ p.2 < 65536) → entry < 4096 →
    ∃ t, resetLoad pairs entry s = .ok t ∧
      (t.ac, t.dr, t.ir, t.tr) = (0#16, 0#16, 0#16, 0#16) ∧ (t.ar, t.inpr, t.outr, t.sc) = (0#12, 0#8, 0#8, 0#4) ∧
      (t.e, t.flagI, t.flagS, t.flagR) = (false, false, false, false) ∧ (t.ien, t.fgi, t.fgo) = (false, false, false) ∧
      t.faultReg = none ∧ t.inputQueue = [] ∧ t.outputStream = [] ∧ t.pc.toNat = entry ∧
      (t.outReadyScript, t.outReadyRest) = (s.outReadyScript, s.outReadyRest) ∧
      ∀ a : Addr, (memRead t.mem a).toNat = ((pairs.reverse.find? (fun p => p.1 == a.toNat)).map Prod.snd).getD 0

/-- Rule R231, the spec's decision D11 (log entry 7). -/
def Obligations.ResetLoadRefusesValuesOutOfRange : Prop :=
  ∀ (s : State) (pairs : List (Nat × Nat)) (entry : Nat),
    ((∃ p ∈ pairs, 4096 ≤ p.1 ∨ 65536 ≤ p.2) ∨ 4096 ≤ entry) → ∃ r, resetLoad pairs entry s = .error r

/-- Rules R232 and R46, the spec's decision D10 (log entry 7); the default environment: log entry 6. -/
def Obligations.CreatedCoreIsTheEmptyLoadAtZero : Prop :=
  (∀ s : State, resetLoad [] 0 (supplyOutReady [] true s) = .ok State.reset) ∧
  (∀ a : Addr, memRead State.reset.mem a = 0#16) ∧ State.reset.pc = 0#12 ∧ outReady State.reset = true

/-- Rule R44 with the field map of rule R31, and FAULT beside it (rules R38 and R125; the register itself is decision D6,
log entry 3). -/
def Obligations.SnapshotShowsTheWholeState : Prop :=
  ∀ s : State,
    (∀ (a : Nat) (h : a < 4096), (snapshot s).memory[a] = memRead s.mem (BitVec.ofNat 12 a)) ∧
    (snapshot s).registers =
      { ac := s.ac, ar := s.ar, dr := s.dr, ir := s.ir, pc := s.pc, tr := s.tr, inpr := s.inpr, outr := s.outr,
        time := s.sc } ∧
    (snapshot s).flags =
      { indirection := s.flagI, stop := s.flagS, overflow := s.e, interrupt := s.flagR, interruptEnable := s.ien,
        input := s.fgi, output := s.fgo } ∧
    (snapshot s).inputStream = s.inputQueue ∧ (snapshot s).outputStream = s.outputStream ∧
    (snapshot s).faultRegister = s.faultReg

/-- Rules R74 and R236, the spec's decision D16 (log entry 17). -/
def Obligations.StoreIntoTheNextInstructionIsFetched : Prop :=
  ∀ (s : State) (i : Bool) (a ea : Addr), Memory.wf s.mem = true → effectiveAddress s.mem i a = ea →
    ∃ t, exec (.sta i a) s = .next t ∧
      (∀ u : State, u.mem = t.mem → u.pc = ea → (fetchWord u).ir = s.ac) ∧
      (t.pc = ea → (fetchWord t).ir = s.ac)
end

