-- ==== Sys2Proof/Laws/Bits.lean ====
section
/-! SUPPORT. What the width changes, the ALU and the tests compute, as numbers and bit by bit. Where two fields
stand side by side (`x ++ y`) the sum of their widths is a numeral, which the library's own lemmas do not match;
these lemmas state the result at the numeral's width. -/

namespace Sys2Proof.Machine

theorem toNat_append_eq {n m : Nat} (x : BitVec n) (y : BitVec m) :
    (x ++ y).toNat = x.toNat * 2 ^ m + y.toNat := by
  rw [BitVec.toNat_append, Nat.shiftLeft_eq, Nat.mul_comm, Nat.two_pow_add_eq_or_of_lt y.isLt]

theorem toNat_append_4_12 (x : BitVec 4) (y : BitVec 12) :
    BitVec.toNat (w := 16) (x ++ y) = x.toNat * 4096 + y.toNat :=
  toNat_append_eq x y

theorem toNat_append_8_8 (x : BitVec 8) (y : BitVec 8) :
    BitVec.toNat (w := 16) (x ++ y) = x.toNat * 256 + y.toNat :=
  toNat_append_eq x y

theorem toNat_append_1_15 (x : BitVec 1) (y : BitVec 15) :
    BitVec.toNat (w := 16) (x ++ y) = x.toNat * 32768 + y.toNat :=
  toNat_append_eq x y

theorem toNat_append_15_1 (x : BitVec 15) (y : BitVec 1) :
    BitVec.toNat (w := 16) (x ++ y) = x.toNat * 2 + y.toNat :=
  toNat_append_eq x y

/-- `zext_16` puts four zeros above the 12 bits. -/
theorem zext16_eq_append (a : Addr) : zext16 a = 0#4 ++ a := by
  apply BitVec.eq_of_toNat_eq
  have h := a.isLt
  rw [toNat_append_4_12]
  simp [zext16]
  omega

/-- `trunc_12` drops the upper four bits. -/
@[simp] theorem trunc12_append (x : BitVec 4) (a : Addr) : trunc12 (x ++ a) = a := by
  apply BitVec.eq_of_toNat_eq
  have h := a.isLt
  rw [trunc12, BitVec.toNat_setWidth, toNat_append_4_12]
  omega

@[simp] theorem trunc12_zext16 (a : Addr) : trunc12 (zext16 a) = a := by
  rw [zext16_eq_append, trunc12_append]

theorem trunc12_eq_extract (w : Word) : trunc12 w = w.extractLsb' 0 12 := by
  apply BitVec.eq_of_toNat_eq
  simp [trunc12, BitVec.toNat_setWidth]

/-- The sum of `alu_add` is the sum modulo 2^16. -/
theorem aluAdd_sum (a b : Word) : (aluAdd a b).1 = a + b := by
  apply BitVec.eq_of_toNat_eq
  have ha := a.isLt
  have hb := b.isLt
  simp only [aluAdd, BitVec.toNat_setWidth, BitVec.toNat_add]
  omega

/-- The carry of `alu_add` is whether the unsigned sum needs 17 bits. -/
theorem aluAdd_carry (a b : Word) : (aluAdd a b).2 = decide (65536 ≤ a.toNat + b.toNat) := by
  have ha := a.isLt
  have hb := b.isLt
  have hs : (a.setWidth 17 + b.setWidth 17).toNat = a.toNat + b.toNat := by
    simp only [BitVec.toNat_setWidth, BitVec.toNat_add]
    omega
  simp only [aluAdd]
  rw [BitVec.getLsbD, hs, Nat.testBit_eq_decide_div_mod_eq]
  congr 1
  simp only [eq_iff_iff]
  omega

theorem circulateRight_toNat (ac : Word) (e : Bool) :
    (circulateRight ac e).1.toNat = ac.toNat / 2 + 32768 * e.toNat := by
  have h := ac.isLt
  simp only [circulateRight]
  rw [toNat_append_1_15]
  simp only [BitVec.extractLsb'_toNat, Nat.shiftRight_eq_div_pow, BitVec.toNat_ofBool]
  omega

theorem circulateLeft_toNat (ac : Word) (e : Bool) :
    (circulateLeft ac e).1.toNat = (2 * ac.toNat + e.toNat) % 65536 := by
  have h := ac.isLt
  simp only [circulateLeft]
  rw [toNat_append_15_1]
  simp only [BitVec.extractLsb'_toNat, Nat.shiftRight_eq_div_pow, BitVec.toNat_ofBool]
  cases e <;> simp only [Bool.toNat_true, Bool.toNat_false] <;> omega

theorem circulateRight_carry (ac : Word) (e : Bool) : (circulateRight ac e).2 = decide (ac.toNat % 2 = 1) := by
  simp [circulateRight, BitVec.getLsbD, Nat.testBit_eq_decide_div_mod_eq]

/-- The sign bit is 1 exactly in the upper half of the values. -/
theorem acNegative_eq (ac : Word) : acNegative ac = decide (0x8000 ≤ ac.toNat) := by
  have h := ac.isLt
  simp only [acNegative]
  rw [BitVec.getLsbD, Nat.testBit_eq_decide_div_mod_eq]
  congr 1
  simp only [eq_iff_iff]
  omega

theorem circulateLeft_carry (ac : Word) (e : Bool) : (circulateLeft ac e).2 = decide (0x8000 ≤ ac.toNat) :=
  acNegative_eq ac

theorem acPositive_eq (ac : Word) : acPositive ac = decide (ac.toNat < 0x8000) := by
  have h := acNegative_eq ac
  simp only [acNegative] at h
  simp only [acPositive, h]
  by_cases hn : 0x8000 ≤ ac.toNat <;> simp [hn]
  omega

@[simp] theorem isZero_iff (v : Word) : isZero v = true ↔ v = 0#16 := by simp [isZero]

theorem skipPc_eq (c : Bool) (pc : Addr) : skipPc c pc = if c = true then pc + 1#12 else pc := rfl

end Sys2Proof.Machine
end

