-- ==== Sys2Proof/Laws/Decode.lean ====
section
/-! SUPPORT. The fields of the words that the encoder writes (30_encoding.md rules R81 and R89), and that every
instruction is well formed. -/

namespace Sys2Proof

theorem addr_toNat_lt (a : Addr) : a.toNat < 4096 := a.isLt

/-- Every instruction is well formed: its address has 12 bits. -/
@[simp] theorem instr_wellFormed (i : Instr) : i.wellFormed = true := by
  cases i <;> simp [Instr.wellFormed, Config.memWords, addr_toNat_lt]

/-- The table of rules R86 to R88 gives every instruction a well-formed shape. -/
@[simp] theorem form_wellFormed (i : Instr) : i.form.wellFormed = true := by
  cases i <;> simp [Instr.form, Form.wellFormed, Config.memWords, addr_toNat_lt]

/-- The bits of three fields side by side. -/
theorem getLsbD_fields (i : Bool) (op : BitVec 3) (a : Addr) (k : Nat) :
    BitVec.getLsbD (w := 16) (BitVec.ofBool i ++ op ++ a) k =
      if k < 12 then a.getLsbD k else if k < 15 then op.getLsbD (k - 12) else decide (k = 15) && i := by
  have h : BitVec.getLsbD (w := 1 + 3 + 12) (BitVec.ofBool i ++ op ++ a) k =
      if k < 12 then a.getLsbD k else if k < 15 then op.getLsbD (k - 12) else decide (k = 15) && i := by
    rw [BitVec.getLsbD_append, BitVec.getLsbD_append]
    by_cases h1 : k < 12
    · simp [h1]
    · by_cases h2 : k < 15
      · simp [h1, h2, show k - 12 < 3 by omega]
      · by_cases h3 : k = 15
        · subst h3; cases i <;> rfl
        · have h4 : ¬ k - 12 < 3 := by omega
          have h5 : k - 12 - 3 ≠ 0 := by omega
          cases i <;> simp [h1, h2, h3, h4, BitVec.getLsbD_one, h5]
  exact h

/-- A memory-reference word is its three fields side by side (rule R81). -/
theorem memory_word_eq_append (op : BitVec 3) (i : Bool) (a : Addr) :
    (Form.memory op.toNat i a.toNat).word = BitVec.ofBool i ++ op ++ a := by
  apply BitVec.eq_of_getLsbD_eq
  intro k hk
  have ho : BitVec.ofNat 16 op.toNat = op.setWidth 16 := by
    apply BitVec.eq_of_toNat_eq; simp
  have ha : BitVec.ofNat 16 a.toNat = a.setWidth 16 := by
    apply BitVec.eq_of_toNat_eq; simp
  rw [getLsbD_fields]
  simp only [Form.word, ho, ha]
  interval_cases k <;> cases i <;> simp

@[simp] theorem fieldI_append (i : Bool) (op : BitVec 3) (a : Addr) :
    fieldI (BitVec.ofBool i ++ op ++ a) = i := by
  unfold fieldI
  rw [getLsbD_fields]
  simp

@[simp] theorem fieldOp_append (i : Bool) (op : BitVec 3) (a : Addr) :
    fieldOp (BitVec.ofBool i ++ op ++ a) = op := by
  apply BitVec.eq_of_getLsbD_eq
  intro k hk
  unfold fieldOp
  rw [BitVec.getLsbD_extractLsb', getLsbD_fields]
  interval_cases k <;> simp

@[simp] theorem fieldAddr_append (i : Bool) (op : BitVec 3) (a : Addr) :
    fieldAddr (BitVec.ofBool i ++ op ++ a) = a := by
  apply BitVec.eq_of_getLsbD_eq
  intro k hk
  unfold fieldAddr
  rw [BitVec.getLsbD_extractLsb', getLsbD_fields]
  interval_cases k <;> simp

/-- A word is its three fields side by side. -/
theorem word_eq_fields (w : Word) : (BitVec.ofBool (fieldI w) ++ fieldOp w ++ fieldAddr w : Word) = w := by
  apply BitVec.eq_of_getLsbD_eq
  intro k hk
  rw [getLsbD_fields]
  interval_cases k <;> simp [fieldI, fieldOp, fieldAddr]

end Sys2Proof
end

