-- ==== Sys2Proof/Laws/Memory.lean ====
section
/-! SUPPORT. The laws of memory: a read after a write, that a write leaves every other word alone, and that every
memory operation keeps the canonical form (20_memory.md rules R66 and R71). -/

namespace Sys2Proof.Machine

@[simp] theorem memory_read_nil (a : Nat) : Memory.read [] a = unlistedWord := rfl

theorem memory_wfFrom_mono {lo lo' : Nat} {m : Memory} (h : lo' ≤ lo) (hm : Memory.wfFrom lo m = true) :
    Memory.wfFrom lo' m = true := by
  cases m with
  | nil => rfl
  | cons c m =>
    obtain ⟨k, w⟩ := c
    simp only [Memory.wfFrom, Bool.and_eq_true, decide_eq_true_eq] at hm ⊢
    obtain ⟨⟨⟨h1, h2⟩, h3⟩, h4⟩ := hm
    exact ⟨⟨⟨by omega, h2⟩, h3⟩, h4⟩

/-- A canonical memory lists nothing below its lower bound. -/
theorem memory_read_below {lo a : Nat} {m : Memory} (hm : Memory.wfFrom lo m = true) (h : a < lo) :
    Memory.read m a = unlistedWord := by
  induction m generalizing lo with
  | nil => rfl
  | cons c m ih =>
    obtain ⟨k, w⟩ := c
    simp only [Memory.wfFrom, Bool.and_eq_true, decide_eq_true_eq] at hm
    obtain ⟨⟨⟨h1, -⟩, -⟩, h4⟩ := hm
    have hk : k ≠ a := by omega
    simpa [Memory.read, hk] using ih h4 (by omega)

/-- A write leaves every other word alone, in any memory. -/
theorem memory_read_write_other {m : Memory} {a b : Nat} (v : Word) (h : b ≠ a) :
    Memory.read (Memory.write m a v) b = Memory.read m b := by
  induction m with
  | nil => by_cases hv : v = unlistedWord <;> simp [Memory.write, Memory.read, hv, h.symm]
  | cons c m ih =>
    obtain ⟨k, w⟩ := c
    rcases Nat.lt_trichotomy a k with hlt | rfl | hgt
    · by_cases hv : v = unlistedWord <;> simp [Memory.write, hlt, hv, Memory.read, h.symm]
    · by_cases hv : v = unlistedWord <;> simp [Memory.write, hv, Memory.read, h.symm]
    · have h5 : ¬ a < k := by omega
      have h6 : a ≠ k := by omega
      simp only [Memory.write, h5, h6, if_false, Memory.read, ih]

/-- A read after a write to the same word gives the value written. -/
theorem memory_read_write_same {m : Memory} {lo : Nat} (hm : Memory.wfFrom lo m = true) (a : Nat) (v : Word) :
    Memory.read (Memory.write m a v) a = v := by
  induction m generalizing lo with
  | nil => by_cases hv : v = unlistedWord <;> simp [Memory.write, Memory.read, hv]
  | cons c m ih =>
    obtain ⟨k, w⟩ := c
    have hm' := hm
    simp only [Memory.wfFrom, Bool.and_eq_true, decide_eq_true_eq] at hm
    obtain ⟨⟨⟨h1, h2⟩, h3⟩, h4⟩ := hm
    rcases Nat.lt_trichotomy a k with hlt | rfl | hgt
    · by_cases hv : v = unlistedWord
      · have hk : k ≠ a := by omega
        simpa [Memory.write, hlt, hv, Memory.read, hk] using memory_read_below h4 (by omega)
      · simp [Memory.write, hlt, hv, Memory.read]
    · by_cases hv : v = unlistedWord
      · simpa [Memory.write, hv] using memory_read_below h4 (by omega)
      · simp [Memory.write, hv, Memory.read]
    · have h5 : ¬ a < k := by omega
      have h6 : a ≠ k := by omega
      simpa [Memory.write, h5, h6, Memory.read, h6.symm] using ih h4

theorem memory_wfFrom_write {m : Memory} {lo a : Nat} (hm : Memory.wfFrom lo m = true) (hlo : lo ≤ a)
    (ha : a < Config.memWords) (v : Word) : Memory.wfFrom lo (Memory.write m a v) = true := by
  induction m generalizing lo with
  | nil => by_cases hv : v = unlistedWord <;> simp [Memory.write, Memory.wfFrom, hv, hlo, ha]
  | cons c m ih =>
    obtain ⟨k, w⟩ := c
    simp only [Memory.wfFrom, Bool.and_eq_true, decide_eq_true_eq] at hm
    obtain ⟨⟨⟨h1, h2⟩, h3⟩, h4⟩ := hm
    rcases Nat.lt_trichotomy a k with hlt | rfl | hgt
    · by_cases hv : v = unlistedWord
      · simp [Memory.write, hlt, hv, Memory.wfFrom, h1, h2, h3, h4]
      · have h5 : a + 1 ≤ k := hlt
        simp [Memory.write, hlt, hv, Memory.wfFrom, h2, h3, h4, hlo, ha, h5]
    · by_cases hv : v = unlistedWord
      · simpa [Memory.write, hv] using memory_wfFrom_mono (by omega) h4
      · simp [Memory.write, hv, Memory.wfFrom, hlo, ha, h4]
    · have h5 : ¬ a < k := by omega
      have h6 : a ≠ k := by omega
      simp [Memory.write, h5, h6, Memory.wfFrom, h1, h2, h3, ih h4 (by omega)]

theorem addr_lt_memWords (a : Addr) : a.toNat < Config.memWords := a.isLt

/-- `MemWrite` keeps the canonical form. -/
@[simp] theorem memWrite_wf {m : Memory} (hm : Memory.wf m = true) (a : Addr) (v : Word) :
    Memory.wf (memWrite m a v) = true :=
  memory_wfFrom_write hm (Nat.zero_le _) (addr_lt_memWords a) v

/-- `MemRead` after `MemWrite` at the same address. -/
theorem memRead_memWrite_same {m : Memory} (hm : Memory.wf m = true) (a : Addr) (v : Word) :
    memRead (memWrite m a v) a = v :=
  memory_read_write_same hm a.toNat v

/-- `MemRead` after `MemWrite` at another address. -/
theorem memRead_memWrite_other {m : Memory} {a b : Addr} (v : Word) (h : b ≠ a) :
    memRead (memWrite m a v) b = memRead m b :=
  memory_read_write_other v (fun hn => h (BitVec.eq_of_toNat_eq hn))

/-- `MemRead` after `MemWrite`, both cases at once. -/
theorem memRead_memWrite {m : Memory} (hm : Memory.wf m = true) (a b : Addr) (v : Word) :
    memRead (memWrite m a v) b = if b = a then v else memRead m b := by
  by_cases h : b = a
  · subst h; simp [memRead_memWrite_same hm]
  · simp [h, memRead_memWrite_other v h]

end Sys2Proof.Machine
end

