-- ==== Sys2Proof/Laws/PerInstr.lean ====
section
/-! SUPPORT. Statements made of every instruction, one lemma per constructor (LAWS.json). -/

/-- The fields an instruction's word holds: `IR[15]`, `IR[14:12]` and `IR[11:0]`, read off the tables of
30_encoding.md rules R86, R87 and R88. -/
def Sys2Proof.Laws.EncodedFields.table : Sys2Proof.Instr → Bool × BitVec 3 × Sys2Proof.Addr
  | .and i a => (i, 0#3, a)
  | .add i a => (i, 1#3, a)
  | .lda i a => (i, 2#3, a)
  | .sta i a => (i, 3#3, a)
  | .bun i a => (i, 4#3, a)
  | .bsa i a => (i, 5#3, a)
  | .isz i a => (i, 6#3, a)
  | .cla => (false, 7#3, 0x800#12)
  | .cle => (false, 7#3, 0x400#12)
  | .cma => (false, 7#3, 0x200#12)
  | .cme => (false, 7#3, 0x100#12)
  | .cir => (false, 7#3, 0x080#12)
  | .cil => (false, 7#3, 0x040#12)
  | .inc => (false, 7#3, 0x020#12)
  | .spa => (false, 7#3, 0x010#12)
  | .sna => (false, 7#3, 0x008#12)
  | .sza => (false, 7#3, 0x004#12)
  | .sze => (false, 7#3, 0x002#12)
  | .hlt => (false, 7#3, 0x001#12)
  | .inp => (true, 7#3, 0x800#12)
  | .out => (true, 7#3, 0x400#12)
  | .ski => (true, 7#3, 0x200#12)
  | .sko => (true, 7#3, 0x100#12)
  | .ion => (true, 7#3, 0x080#12)
  | .iof => (true, 7#3, 0x040#12)

/-- The encoder puts exactly those fields into the word. -/
def Sys2Proof.Laws.EncodedFields.Statement (i : Sys2Proof.Instr) : Prop :=
  (Sys2Proof.fieldI (Sys2Proof.encode i), Sys2Proof.fieldOp (Sys2Proof.encode i), Sys2Proof.fieldAddr (Sys2Proof.encode i)) =
    Sys2Proof.Laws.EncodedFields.table i

/-- The word of a memory-reference shape holds its three fields. -/
theorem Sys2Proof.Laws.memory_word_fields (op : BitVec 3) (i : Bool) (a : Sys2Proof.Addr) :
    (Sys2Proof.fieldI (Sys2Proof.Form.memory op.toNat i a.toNat).word,
      Sys2Proof.fieldOp (Sys2Proof.Form.memory op.toNat i a.toNat).word,
      Sys2Proof.fieldAddr (Sys2Proof.Form.memory op.toNat i a.toNat).word) = (i, op, a) := by
  simp [Sys2Proof.memory_word_eq_append]

theorem Sys2Proof.Laws.EncodedFields.and (i : Bool) (a : Sys2Proof.Addr) :
    Sys2Proof.Laws.EncodedFields.Statement (.and i a) :=
  Sys2Proof.Laws.memory_word_fields 0#3 i a

theorem Sys2Proof.Laws.EncodedFields.add (i : Bool) (a : Sys2Proof.Addr) :
    Sys2Proof.Laws.EncodedFields.Statement (.add i a) :=
  Sys2Proof.Laws.memory_word_fields 1#3 i a

theorem Sys2Proof.Laws.EncodedFields.lda (i : Bool) (a : Sys2Proof.Addr) :
    Sys2Proof.Laws.EncodedFields.Statement (.lda i a) :=
  Sys2Proof.Laws.memory_word_fields 2#3 i a

theorem Sys2Proof.Laws.EncodedFields.sta (i : Bool) (a : Sys2Proof.Addr) :
    Sys2Proof.Laws.EncodedFields.Statement (.sta i a) :=
  Sys2Proof.Laws.memory_word_fields 3#3 i a

theorem Sys2Proof.Laws.EncodedFields.bun (i : Bool) (a : Sys2Proof.Addr) :
    Sys2Proof.Laws.EncodedFields.Statement (.bun i a) :=
  Sys2Proof.Laws.memory_word_fields 4#3 i a

theorem Sys2Proof.Laws.EncodedFields.bsa (i : Bool) (a : Sys2Proof.Addr) :
    Sys2Proof.Laws.EncodedFields.Statement (.bsa i a) :=
  Sys2Proof.Laws.memory_word_fields 5#3 i a

theorem Sys2Proof.Laws.EncodedFields.isz (i : Bool) (a : Sys2Proof.Addr) :
    Sys2Proof.Laws.EncodedFields.Statement (.isz i a) :=
  Sys2Proof.Laws.memory_word_fields 6#3 i a

theorem Sys2Proof.Laws.EncodedFields.cla : Sys2Proof.Laws.EncodedFields.Statement .cla := rfl

theorem Sys2Proof.Laws.EncodedFields.cle : Sys2Proof.Laws.EncodedFields.Statement .cle := rfl

theorem Sys2Proof.Laws.EncodedFields.cma : Sys2Proof.Laws.EncodedFields.Statement .cma := rfl

theorem Sys2Proof.Laws.EncodedFields.cme : Sys2Proof.Laws.EncodedFields.Statement .cme := rfl

theorem Sys2Proof.Laws.EncodedFields.cir : Sys2Proof.Laws.EncodedFields.Statement .cir := rfl

theorem Sys2Proof.Laws.EncodedFields.cil : Sys2Proof.Laws.EncodedFields.Statement .cil := rfl

theorem Sys2Proof.Laws.EncodedFields.inc : Sys2Proof.Laws.EncodedFields.Statement .inc := rfl

theorem Sys2Proof.Laws.EncodedFields.spa : Sys2Proof.Laws.EncodedFields.Statement .spa := rfl

theorem Sys2Proof.Laws.EncodedFields.sna : Sys2Proof.Laws.EncodedFields.Statement .sna := rfl

theorem Sys2Proof.Laws.EncodedFields.sza : Sys2Proof.Laws.EncodedFields.Statement .sza := rfl

theorem Sys2Proof.Laws.EncodedFields.sze : Sys2Proof.Laws.EncodedFields.Statement .sze := rfl

theorem Sys2Proof.Laws.EncodedFields.hlt : Sys2Proof.Laws.EncodedFields.Statement .hlt := rfl

theorem Sys2Proof.Laws.EncodedFields.inp : Sys2Proof.Laws.EncodedFields.Statement .inp := rfl

theorem Sys2Proof.Laws.EncodedFields.out : Sys2Proof.Laws.EncodedFields.Statement .out := rfl

theorem Sys2Proof.Laws.EncodedFields.ski : Sys2Proof.Laws.EncodedFields.Statement .ski := rfl

theorem Sys2Proof.Laws.EncodedFields.sko : Sys2Proof.Laws.EncodedFields.Statement .sko := rfl

theorem Sys2Proof.Laws.EncodedFields.ion : Sys2Proof.Laws.EncodedFields.Statement .ion := rfl

theorem Sys2Proof.Laws.EncodedFields.iof : Sys2Proof.Laws.EncodedFields.Statement .iof := rfl
end

