-- ==== Sys2Proof/Laws/State.lean ====
section
/-! SUPPORT. Every shared operation, field by field: one lemma per field per update, true by rfl, so that no
proof unfolds a record update. -/

namespace Sys2Proof.Machine

variable (s : State)

@[simp] theorem inputUpdate_ac : (inputUpdate s).ac = s.ac := rfl
@[simp] theorem inputUpdate_e : (inputUpdate s).e = s.e := rfl
@[simp] theorem inputUpdate_ar : (inputUpdate s).ar = s.ar := rfl
@[simp] theorem inputUpdate_pc : (inputUpdate s).pc = s.pc := rfl
@[simp] theorem inputUpdate_dr : (inputUpdate s).dr = s.dr := rfl
@[simp] theorem inputUpdate_ir : (inputUpdate s).ir = s.ir := rfl
@[simp] theorem inputUpdate_tr : (inputUpdate s).tr = s.tr := rfl
@[simp] theorem inputUpdate_inpr : (inputUpdate s).inpr = (if takesChar s then s.inputQueue.headD s.inpr else s.inpr) := rfl
@[simp] theorem inputUpdate_outr : (inputUpdate s).outr = s.outr := rfl
@[simp] theorem inputUpdate_sc : (inputUpdate s).sc = s.sc := rfl
@[simp] theorem inputUpdate_flagI : (inputUpdate s).flagI = s.flagI := rfl
@[simp] theorem inputUpdate_flagS : (inputUpdate s).flagS = s.flagS := rfl
@[simp] theorem inputUpdate_flagR : (inputUpdate s).flagR = s.flagR := rfl
@[simp] theorem inputUpdate_ien : (inputUpdate s).ien = s.ien := rfl
@[simp] theorem inputUpdate_fgi : (inputUpdate s).fgi = (if takesChar s then true else s.fgi) := rfl
@[simp] theorem inputUpdate_fgo : (inputUpdate s).fgo = s.fgo := rfl
@[simp] theorem inputUpdate_faultReg : (inputUpdate s).faultReg = s.faultReg := rfl
@[simp] theorem inputUpdate_mem : (inputUpdate s).mem = s.mem := rfl
@[simp] theorem inputUpdate_inputQueue : (inputUpdate s).inputQueue = (if takesChar s then s.inputQueue.tail else s.inputQueue) := rfl
@[simp] theorem inputUpdate_outputStream : (inputUpdate s).outputStream = s.outputStream := rfl
@[simp] theorem inputUpdate_outReadyScript : (inputUpdate s).outReadyScript = s.outReadyScript := rfl
@[simp] theorem inputUpdate_outReadyRest : (inputUpdate s).outReadyRest = s.outReadyRest := rfl

@[simp] theorem outputUpdate_ac : (outputUpdate s).ac = s.ac := rfl
@[simp] theorem outputUpdate_e : (outputUpdate s).e = s.e := rfl
@[simp] theorem outputUpdate_ar : (outputUpdate s).ar = s.ar := rfl
@[simp] theorem outputUpdate_pc : (outputUpdate s).pc = s.pc := rfl
@[simp] theorem outputUpdate_dr : (outputUpdate s).dr = s.dr := rfl
@[simp] theorem outputUpdate_ir : (outputUpdate s).ir = s.ir := rfl
@[simp] theorem outputUpdate_tr : (outputUpdate s).tr = s.tr := rfl
@[simp] theorem outputUpdate_inpr : (outputUpdate s).inpr = s.inpr := rfl
@[simp] theorem outputUpdate_outr : (outputUpdate s).outr = s.outr := rfl
@[simp] theorem outputUpdate_sc : (outputUpdate s).sc = s.sc := rfl
@[simp] theorem outputUpdate_flagI : (outputUpdate s).flagI = s.flagI := rfl
@[simp] theorem outputUpdate_flagS : (outputUpdate s).flagS = s.flagS := rfl
@[simp] theorem outputUpdate_flagR : (outputUpdate s).flagR = s.flagR := rfl
@[simp] theorem outputUpdate_ien : (outputUpdate s).ien = s.ien := rfl
@[simp] theorem outputUpdate_fgi : (outputUpdate s).fgi = s.fgi := rfl
@[simp] theorem outputUpdate_fgo : (outputUpdate s).fgo = (if !s.fgo && outReady s then true else s.fgo) := rfl
@[simp] theorem outputUpdate_faultReg : (outputUpdate s).faultReg = s.faultReg := rfl
@[simp] theorem outputUpdate_mem : (outputUpdate s).mem = s.mem := rfl
@[simp] theorem outputUpdate_inputQueue : (outputUpdate s).inputQueue = s.inputQueue := rfl
@[simp] theorem outputUpdate_outputStream : (outputUpdate s).outputStream = s.outputStream := rfl
@[simp] theorem outputUpdate_outReadyScript : (outputUpdate s).outReadyScript = s.outReadyScript.tail := rfl
@[simp] theorem outputUpdate_outReadyRest : (outputUpdate s).outReadyRest = s.outReadyRest := rfl

@[simp] theorem deviceUpdate_ac : (deviceUpdate s).ac = s.ac := rfl
@[simp] theorem deviceUpdate_e : (deviceUpdate s).e = s.e := rfl
@[simp] theorem deviceUpdate_ar : (deviceUpdate s).ar = s.ar := rfl
@[simp] theorem deviceUpdate_pc : (deviceUpdate s).pc = s.pc := rfl
@[simp] theorem deviceUpdate_dr : (deviceUpdate s).dr = s.dr := rfl
@[simp] theorem deviceUpdate_ir : (deviceUpdate s).ir = s.ir := rfl
@[simp] theorem deviceUpdate_tr : (deviceUpdate s).tr = s.tr := rfl
@[simp] theorem deviceUpdate_inpr : (deviceUpdate s).inpr = (if takesChar s then s.inputQueue.headD s.inpr else s.inpr) := rfl
@[simp] theorem deviceUpdate_outr : (deviceUpdate s).outr = s.outr := rfl
@[simp] theorem deviceUpdate_sc : (deviceUpdate s).sc = s.sc := rfl
@[simp] theorem deviceUpdate_flagI : (deviceUpdate s).flagI = s.flagI := rfl
@[simp] theorem deviceUpdate_flagS : (deviceUpdate s).flagS = s.flagS := rfl
@[simp] theorem deviceUpdate_flagR : (deviceUpdate s).flagR = s.flagR := rfl
@[simp] theorem deviceUpdate_ien : (deviceUpdate s).ien = s.ien := rfl
@[simp] theorem deviceUpdate_fgi : (deviceUpdate s).fgi = (if takesChar s then true else s.fgi) := rfl
@[simp] theorem deviceUpdate_fgo : (deviceUpdate s).fgo = (if !s.fgo && outReady s then true else s.fgo) := rfl
@[simp] theorem deviceUpdate_faultReg : (deviceUpdate s).faultReg = s.faultReg := rfl
@[simp] theorem deviceUpdate_mem : (deviceUpdate s).mem = s.mem := rfl
@[simp] theorem deviceUpdate_inputQueue : (deviceUpdate s).inputQueue = (if takesChar s then s.inputQueue.tail else s.inputQueue) := rfl
@[simp] theorem deviceUpdate_outputStream : (deviceUpdate s).outputStream = s.outputStream := rfl
@[simp] theorem deviceUpdate_outReadyScript : (deviceUpdate s).outReadyScript = s.outReadyScript.tail := rfl
@[simp] theorem deviceUpdate_outReadyRest : (deviceUpdate s).outReadyRest = s.outReadyRest := rfl

@[simp] theorem fetchT0_ac : (fetchT0 s).ac = s.ac := rfl
@[simp] theorem fetchT0_e : (fetchT0 s).e = s.e := rfl
@[simp] theorem fetchT0_ar : (fetchT0 s).ar = s.pc := rfl
@[simp] theorem fetchT0_pc : (fetchT0 s).pc = s.pc := rfl
@[simp] theorem fetchT0_dr : (fetchT0 s).dr = s.dr := rfl
@[simp] theorem fetchT0_ir : (fetchT0 s).ir = s.ir := rfl
@[simp] theorem fetchT0_tr : (fetchT0 s).tr = s.tr := rfl
@[simp] theorem fetchT0_inpr : (fetchT0 s).inpr = s.inpr := rfl
@[simp] theorem fetchT0_outr : (fetchT0 s).outr = s.outr := rfl
@[simp] theorem fetchT0_sc : (fetchT0 s).sc = 1#4 := rfl
@[simp] theorem fetchT0_flagI : (fetchT0 s).flagI = s.flagI := rfl
@[simp] theorem fetchT0_flagS : (fetchT0 s).flagS = s.flagS := rfl
@[simp] theorem fetchT0_flagR : (fetchT0 s).flagR = s.flagR := rfl
@[simp] theorem fetchT0_ien : (fetchT0 s).ien = s.ien := rfl
@[simp] theorem fetchT0_fgi : (fetchT0 s).fgi = s.fgi := rfl
@[simp] theorem fetchT0_fgo : (fetchT0 s).fgo = s.fgo := rfl
@[simp] theorem fetchT0_faultReg : (fetchT0 s).faultReg = s.faultReg := rfl
@[simp] theorem fetchT0_mem : (fetchT0 s).mem = s.mem := rfl
@[simp] theorem fetchT0_inputQueue : (fetchT0 s).inputQueue = s.inputQueue := rfl
@[simp] theorem fetchT0_outputStream : (fetchT0 s).outputStream = s.outputStream := rfl
@[simp] theorem fetchT0_outReadyScript : (fetchT0 s).outReadyScript = s.outReadyScript := rfl
@[simp] theorem fetchT0_outReadyRest : (fetchT0 s).outReadyRest = s.outReadyRest := rfl

@[simp] theorem fetchT1_ac : (fetchT1 s).ac = s.ac := rfl
@[simp] theorem fetchT1_e : (fetchT1 s).e = s.e := rfl
@[simp] theorem fetchT1_ar : (fetchT1 s).ar = s.ar := rfl
@[simp] theorem fetchT1_pc : (fetchT1 s).pc = s.pc + 1#12 := rfl
@[simp] theorem fetchT1_dr : (fetchT1 s).dr = s.dr := rfl
@[simp] theorem fetchT1_ir : (fetchT1 s).ir = memRead s.mem s.ar := rfl
@[simp] theorem fetchT1_tr : (fetchT1 s).tr = s.tr := rfl
@[simp] theorem fetchT1_inpr : (fetchT1 s).inpr = s.inpr := rfl
@[simp] theorem fetchT1_outr : (fetchT1 s).outr = s.outr := rfl
@[simp] theorem fetchT1_sc : (fetchT1 s).sc = 2#4 := rfl
@[simp] theorem fetchT1_flagI : (fetchT1 s).flagI = s.flagI := rfl
@[simp] theorem fetchT1_flagS : (fetchT1 s).flagS = s.flagS := rfl
@[simp] theorem fetchT1_flagR : (fetchT1 s).flagR = s.flagR := rfl
@[simp] theorem fetchT1_ien : (fetchT1 s).ien = s.ien := rfl
@[simp] theorem fetchT1_fgi : (fetchT1 s).fgi = s.fgi := rfl
@[simp] theorem fetchT1_fgo : (fetchT1 s).fgo = s.fgo := rfl
@[simp] theorem fetchT1_faultReg : (fetchT1 s).faultReg = s.faultReg := rfl
@[simp] theorem fetchT1_mem : (fetchT1 s).mem = s.mem := rfl
@[simp] theorem fetchT1_inputQueue : (fetchT1 s).inputQueue = s.inputQueue := rfl
@[simp] theorem fetchT1_outputStream : (fetchT1 s).outputStream = s.outputStream := rfl
@[simp] theorem fetchT1_outReadyScript : (fetchT1 s).outReadyScript = s.outReadyScript := rfl
@[simp] theorem fetchT1_outReadyRest : (fetchT1 s).outReadyRest = s.outReadyRest := rfl

@[simp] theorem decodePulse_ac (i : Bool) (a : Addr) : (decodePulse i a s).ac = s.ac := rfl
@[simp] theorem decodePulse_e (i : Bool) (a : Addr) : (decodePulse i a s).e = s.e := rfl
@[simp] theorem decodePulse_ar (i : Bool) (a : Addr) : (decodePulse i a s).ar = a := rfl
@[simp] theorem decodePulse_pc (i : Bool) (a : Addr) : (decodePulse i a s).pc = s.pc := rfl
@[simp] theorem decodePulse_dr (i : Bool) (a : Addr) : (decodePulse i a s).dr = s.dr := rfl
@[simp] theorem decodePulse_ir (i : Bool) (a : Addr) : (decodePulse i a s).ir = s.ir := rfl
@[simp] theorem decodePulse_tr (i : Bool) (a : Addr) : (decodePulse i a s).tr = s.tr := rfl
@[simp] theorem decodePulse_inpr (i : Bool) (a : Addr) : (decodePulse i a s).inpr = s.inpr := rfl
@[simp] theorem decodePulse_outr (i : Bool) (a : Addr) : (decodePulse i a s).outr = s.outr := rfl
@[simp] theorem decodePulse_sc (i : Bool) (a : Addr) : (decodePulse i a s).sc = 3#4 := rfl
@[simp] theorem decodePulse_flagI (i : Bool) (a : Addr) : (decodePulse i a s).flagI = i := rfl
@[simp] theorem decodePulse_flagS (i : Bool) (a : Addr) : (decodePulse i a s).flagS = s.flagS := rfl
@[simp] theorem decodePulse_flagR (i : Bool) (a : Addr) : (decodePulse i a s).flagR = s.flagR := rfl
@[simp] theorem decodePulse_ien (i : Bool) (a : Addr) : (decodePulse i a s).ien = s.ien := rfl
@[simp] theorem decodePulse_fgi (i : Bool) (a : Addr) : (decodePulse i a s).fgi = s.fgi := rfl
@[simp] theorem decodePulse_fgo (i : Bool) (a : Addr) : (decodePulse i a s).fgo = s.fgo := rfl
@[simp] theorem decodePulse_faultReg (i : Bool) (a : Addr) : (decodePulse i a s).faultReg = s.faultReg := rfl
@[simp] theorem decodePulse_mem (i : Bool) (a : Addr) : (decodePulse i a s).mem = s.mem := rfl
@[simp] theorem decodePulse_inputQueue (i : Bool) (a : Addr) : (decodePulse i a s).inputQueue = s.inputQueue := rfl
@[simp] theorem decodePulse_outputStream (i : Bool) (a : Addr) : (decodePulse i a s).outputStream = s.outputStream := rfl
@[simp] theorem decodePulse_outReadyScript (i : Bool) (a : Addr) : (decodePulse i a s).outReadyScript = s.outReadyScript := rfl
@[simp] theorem decodePulse_outReadyRest (i : Bool) (a : Addr) : (decodePulse i a s).outReadyRest = s.outReadyRest := rfl

@[simp] theorem decodeT2_ac : (decodeT2 s).ac = s.ac := rfl
@[simp] theorem decodeT2_e : (decodeT2 s).e = s.e := rfl
@[simp] theorem decodeT2_ar : (decodeT2 s).ar = fieldAddr s.ir := rfl
@[simp] theorem decodeT2_pc : (decodeT2 s).pc = s.pc := rfl
@[simp] theorem decodeT2_dr : (decodeT2 s).dr = s.dr := rfl
@[simp] theorem decodeT2_ir : (decodeT2 s).ir = s.ir := rfl
@[simp] theorem decodeT2_tr : (decodeT2 s).tr = s.tr := rfl
@[simp] theorem decodeT2_inpr : (decodeT2 s).inpr = s.inpr := rfl
@[simp] theorem decodeT2_outr : (decodeT2 s).outr = s.outr := rfl
@[simp] theorem decodeT2_sc : (decodeT2 s).sc = 3#4 := rfl
@[simp] theorem decodeT2_flagI : (decodeT2 s).flagI = fieldI s.ir := rfl
@[simp] theorem decodeT2_flagS : (decodeT2 s).flagS = s.flagS := rfl
@[simp] theorem decodeT2_flagR : (decodeT2 s).flagR = s.flagR := rfl
@[simp] theorem decodeT2_ien : (decodeT2 s).ien = s.ien := rfl
@[simp] theorem decodeT2_fgi : (decodeT2 s).fgi = s.fgi := rfl
@[simp] theorem decodeT2_fgo : (decodeT2 s).fgo = s.fgo := rfl
@[simp] theorem decodeT2_faultReg : (decodeT2 s).faultReg = s.faultReg := rfl
@[simp] theorem decodeT2_mem : (decodeT2 s).mem = s.mem := rfl
@[simp] theorem decodeT2_inputQueue : (decodeT2 s).inputQueue = s.inputQueue := rfl
@[simp] theorem decodeT2_outputStream : (decodeT2 s).outputStream = s.outputStream := rfl
@[simp] theorem decodeT2_outReadyScript : (decodeT2 s).outReadyScript = s.outReadyScript := rfl
@[simp] theorem decodeT2_outReadyRest : (decodeT2 s).outReadyRest = s.outReadyRest := rfl

@[simp] theorem addressT3_ac : (addressT3 s).ac = s.ac := rfl
@[simp] theorem addressT3_e : (addressT3 s).e = s.e := rfl
@[simp] theorem addressT3_ar : (addressT3 s).ar = effectiveAddress s.mem s.flagI s.ar := rfl
@[simp] theorem addressT3_pc : (addressT3 s).pc = s.pc := rfl
@[simp] theorem addressT3_dr : (addressT3 s).dr = s.dr := rfl
@[simp] theorem addressT3_ir : (addressT3 s).ir = s.ir := rfl
@[simp] theorem addressT3_tr : (addressT3 s).tr = s.tr := rfl
@[simp] theorem addressT3_inpr : (addressT3 s).inpr = s.inpr := rfl
@[simp] theorem addressT3_outr : (addressT3 s).outr = s.outr := rfl
@[simp] theorem addressT3_sc : (addressT3 s).sc = 4#4 := rfl
@[simp] theorem addressT3_flagI : (addressT3 s).flagI = s.flagI := rfl
@[simp] theorem addressT3_flagS : (addressT3 s).flagS = s.flagS := rfl
@[simp] theorem addressT3_flagR : (addressT3 s).flagR = s.flagR := rfl
@[simp] theorem addressT3_ien : (addressT3 s).ien = s.ien := rfl
@[simp] theorem addressT3_fgi : (addressT3 s).fgi = s.fgi := rfl
@[simp] theorem addressT3_fgo : (addressT3 s).fgo = s.fgo := rfl
@[simp] theorem addressT3_faultReg : (addressT3 s).faultReg = s.faultReg := rfl
@[simp] theorem addressT3_mem : (addressT3 s).mem = s.mem := rfl
@[simp] theorem addressT3_inputQueue : (addressT3 s).inputQueue = s.inputQueue := rfl
@[simp] theorem addressT3_outputStream : (addressT3 s).outputStream = s.outputStream := rfl
@[simp] theorem addressT3_outReadyScript : (addressT3 s).outReadyScript = s.outReadyScript := rfl
@[simp] theorem addressT3_outReadyRest : (addressT3 s).outReadyRest = s.outReadyRest := rfl

@[simp] theorem loadT4_ac : (loadT4 s).ac = s.ac := rfl
@[simp] theorem loadT4_e : (loadT4 s).e = s.e := rfl
@[simp] theorem loadT4_ar : (loadT4 s).ar = s.ar := rfl
@[simp] theorem loadT4_pc : (loadT4 s).pc = s.pc := rfl
@[simp] theorem loadT4_dr : (loadT4 s).dr = memRead s.mem s.ar := rfl
@[simp] theorem loadT4_ir : (loadT4 s).ir = s.ir := rfl
@[simp] theorem loadT4_tr : (loadT4 s).tr = s.tr := rfl
@[simp] theorem loadT4_inpr : (loadT4 s).inpr = s.inpr := rfl
@[simp] theorem loadT4_outr : (loadT4 s).outr = s.outr := rfl
@[simp] theorem loadT4_sc : (loadT4 s).sc = 5#4 := rfl
@[simp] theorem loadT4_flagI : (loadT4 s).flagI = s.flagI := rfl
@[simp] theorem loadT4_flagS : (loadT4 s).flagS = s.flagS := rfl
@[simp] theorem loadT4_flagR : (loadT4 s).flagR = s.flagR := rfl
@[simp] theorem loadT4_ien : (loadT4 s).ien = s.ien := rfl
@[simp] theorem loadT4_fgi : (loadT4 s).fgi = s.fgi := rfl
@[simp] theorem loadT4_fgo : (loadT4 s).fgo = s.fgo := rfl
@[simp] theorem loadT4_faultReg : (loadT4 s).faultReg = s.faultReg := rfl
@[simp] theorem loadT4_mem : (loadT4 s).mem = s.mem := rfl
@[simp] theorem loadT4_inputQueue : (loadT4 s).inputQueue = s.inputQueue := rfl
@[simp] theorem loadT4_outputStream : (loadT4 s).outputStream = s.outputStream := rfl
@[simp] theorem loadT4_outReadyScript : (loadT4 s).outReadyScript = s.outReadyScript := rfl
@[simp] theorem loadT4_outReadyRest : (loadT4 s).outReadyRest = s.outReadyRest := rfl

@[simp] theorem endCycle_ac : (endCycle s).ac = s.ac := rfl
@[simp] theorem endCycle_e : (endCycle s).e = s.e := rfl
@[simp] theorem endCycle_ar : (endCycle s).ar = s.ar := rfl
@[simp] theorem endCycle_pc : (endCycle s).pc = s.pc := rfl
@[simp] theorem endCycle_dr : (endCycle s).dr = s.dr := rfl
@[simp] theorem endCycle_ir : (endCycle s).ir = s.ir := rfl
@[simp] theorem endCycle_tr : (endCycle s).tr = s.tr := rfl
@[simp] theorem endCycle_inpr : (endCycle s).inpr = s.inpr := rfl
@[simp] theorem endCycle_outr : (endCycle s).outr = s.outr := rfl
@[simp] theorem endCycle_sc : (endCycle s).sc = 0#4 := rfl
@[simp] theorem endCycle_flagI : (endCycle s).flagI = s.flagI := rfl
@[simp] theorem endCycle_flagS : (endCycle s).flagS = s.flagS := rfl
@[simp] theorem endCycle_flagR : (endCycle s).flagR = (if interruptRequest s.ien s.fgi s.fgo then true else s.flagR) := rfl
@[simp] theorem endCycle_ien : (endCycle s).ien = s.ien := rfl
@[simp] theorem endCycle_fgi : (endCycle s).fgi = s.fgi := rfl
@[simp] theorem endCycle_fgo : (endCycle s).fgo = s.fgo := rfl
@[simp] theorem endCycle_faultReg : (endCycle s).faultReg = s.faultReg := rfl
@[simp] theorem endCycle_mem : (endCycle s).mem = s.mem := rfl
@[simp] theorem endCycle_inputQueue : (endCycle s).inputQueue = s.inputQueue := rfl
@[simp] theorem endCycle_outputStream : (endCycle s).outputStream = s.outputStream := rfl
@[simp] theorem endCycle_outReadyScript : (endCycle s).outReadyScript = s.outReadyScript := rfl
@[simp] theorem endCycle_outReadyRest : (endCycle s).outReadyRest = s.outReadyRest := rfl

@[simp] theorem interruptRT0_ac : (interruptRT0 s).ac = s.ac := rfl
@[simp] theorem interruptRT0_e : (interruptRT0 s).e = s.e := rfl
@[simp] theorem interruptRT0_ar : (interruptRT0 s).ar = 0#12 := rfl
@[simp] theorem interruptRT0_pc : (interruptRT0 s).pc = s.pc := rfl
@[simp] theorem interruptRT0_dr : (interruptRT0 s).dr = s.dr := rfl
@[simp] theorem interruptRT0_ir : (interruptRT0 s).ir = s.ir := rfl
@[simp] theorem interruptRT0_tr : (interruptRT0 s).tr = zext16 s.pc := rfl
@[simp] theorem interruptRT0_inpr : (interruptRT0 s).inpr = s.inpr := rfl
@[simp] theorem interruptRT0_outr : (interruptRT0 s).outr = s.outr := rfl
@[simp] theorem interruptRT0_sc : (interruptRT0 s).sc = 1#4 := rfl
@[simp] theorem interruptRT0_flagI : (interruptRT0 s).flagI = s.flagI := rfl
@[simp] theorem interruptRT0_flagS : (interruptRT0 s).flagS = s.flagS := rfl
@[simp] theorem interruptRT0_flagR : (interruptRT0 s).flagR = s.flagR := rfl
@[simp] theorem interruptRT0_ien : (interruptRT0 s).ien = s.ien := rfl
@[simp] theorem interruptRT0_fgi : (interruptRT0 s).fgi = s.fgi := rfl
@[simp] theorem interruptRT0_fgo : (interruptRT0 s).fgo = s.fgo := rfl
@[simp] theorem interruptRT0_faultReg : (interruptRT0 s).faultReg = s.faultReg := rfl
@[simp] theorem interruptRT0_mem : (interruptRT0 s).mem = s.mem := rfl
@[simp] theorem interruptRT0_inputQueue : (interruptRT0 s).inputQueue = s.inputQueue := rfl
@[simp] theorem interruptRT0_outputStream : (interruptRT0 s).outputStream = s.outputStream := rfl
@[simp] theorem interruptRT0_outReadyScript : (interruptRT0 s).outReadyScript = s.outReadyScript := rfl
@[simp] theorem interruptRT0_outReadyRest : (interruptRT0 s).outReadyRest = s.outReadyRest := rfl

@[simp] theorem interruptRT1_ac : (interruptRT1 s).ac = s.ac := rfl
@[simp] theorem interruptRT1_e : (interruptRT1 s).e = s.e := rfl
@[simp] theorem interruptRT1_ar : (interruptRT1 s).ar = s.ar := rfl
@[simp] theorem interruptRT1_pc : (interruptRT1 s).pc = 0#12 := rfl
@[simp] theorem interruptRT1_dr : (interruptRT1 s).dr = s.dr := rfl
@[simp] theorem interruptRT1_ir : (interruptRT1 s).ir = s.ir := rfl
@[simp] theorem interruptRT1_tr : (interruptRT1 s).tr = s.tr := rfl
@[simp] theorem interruptRT1_inpr : (interruptRT1 s).inpr = s.inpr := rfl
@[simp] theorem interruptRT1_outr : (interruptRT1 s).outr = s.outr := rfl
@[simp] theorem interruptRT1_sc : (interruptRT1 s).sc = 2#4 := rfl
@[simp] theorem interruptRT1_flagI : (interruptRT1 s).flagI = s.flagI := rfl
@[simp] theorem interruptRT1_flagS : (interruptRT1 s).flagS = s.flagS := rfl
@[simp] theorem interruptRT1_flagR : (interruptRT1 s).flagR = s.flagR := rfl
@[simp] theorem interruptRT1_ien : (interruptRT1 s).ien = s.ien := rfl
@[simp] theorem interruptRT1_fgi : (interruptRT1 s).fgi = s.fgi := rfl
@[simp] theorem interruptRT1_fgo : (interruptRT1 s).fgo = s.fgo := rfl
@[simp] theorem interruptRT1_faultReg : (interruptRT1 s).faultReg = s.faultReg := rfl
@[simp] theorem interruptRT1_mem : (interruptRT1 s).mem = memWrite s.mem s.ar s.tr := rfl
@[simp] theorem interruptRT1_inputQueue : (interruptRT1 s).inputQueue = s.inputQueue := rfl
@[simp] theorem interruptRT1_outputStream : (interruptRT1 s).outputStream = s.outputStream := rfl
@[simp] theorem interruptRT1_outReadyScript : (interruptRT1 s).outReadyScript = s.outReadyScript := rfl
@[simp] theorem interruptRT1_outReadyRest : (interruptRT1 s).outReadyRest = s.outReadyRest := rfl

@[simp] theorem interruptRT2_ac : (interruptRT2 s).ac = s.ac := rfl
@[simp] theorem interruptRT2_e : (interruptRT2 s).e = s.e := rfl
@[simp] theorem interruptRT2_ar : (interruptRT2 s).ar = s.ar := rfl
@[simp] theorem interruptRT2_pc : (interruptRT2 s).pc = s.pc + 1#12 := rfl
@[simp] theorem interruptRT2_dr : (interruptRT2 s).dr = s.dr := rfl
@[simp] theorem interruptRT2_ir : (interruptRT2 s).ir = s.ir := rfl
@[simp] theorem interruptRT2_tr : (interruptRT2 s).tr = s.tr := rfl
@[simp] theorem interruptRT2_inpr : (interruptRT2 s).inpr = s.inpr := rfl
@[simp] theorem interruptRT2_outr : (interruptRT2 s).outr = s.outr := rfl
@[simp] theorem interruptRT2_sc : (interruptRT2 s).sc = 0#4 := rfl
@[simp] theorem interruptRT2_flagI : (interruptRT2 s).flagI = s.flagI := rfl
@[simp] theorem interruptRT2_flagS : (interruptRT2 s).flagS = s.flagS := rfl
@[simp] theorem interruptRT2_flagR : (interruptRT2 s).flagR = false := rfl
@[simp] theorem interruptRT2_ien : (interruptRT2 s).ien = false := rfl
@[simp] theorem interruptRT2_fgi : (interruptRT2 s).fgi = s.fgi := rfl
@[simp] theorem interruptRT2_fgo : (interruptRT2 s).fgo = s.fgo := rfl
@[simp] theorem interruptRT2_faultReg : (interruptRT2 s).faultReg = s.faultReg := rfl
@[simp] theorem interruptRT2_mem : (interruptRT2 s).mem = s.mem := rfl
@[simp] theorem interruptRT2_inputQueue : (interruptRT2 s).inputQueue = s.inputQueue := rfl
@[simp] theorem interruptRT2_outputStream : (interruptRT2 s).outputStream = s.outputStream := rfl
@[simp] theorem interruptRT2_outReadyScript : (interruptRT2 s).outReadyScript = s.outReadyScript := rfl
@[simp] theorem interruptRT2_outReadyRest : (interruptRT2 s).outReadyRest = s.outReadyRest := rfl

@[simp] theorem raiseDecodeError_ac : (raiseDecodeError s).ac = s.ac := rfl
@[simp] theorem raiseDecodeError_e : (raiseDecodeError s).e = s.e := rfl
@[simp] theorem raiseDecodeError_ar : (raiseDecodeError s).ar = s.ar := rfl
@[simp] theorem raiseDecodeError_pc : (raiseDecodeError s).pc = s.pc := rfl
@[simp] theorem raiseDecodeError_dr : (raiseDecodeError s).dr = s.dr := rfl
@[simp] theorem raiseDecodeError_ir : (raiseDecodeError s).ir = s.ir := rfl
@[simp] theorem raiseDecodeError_tr : (raiseDecodeError s).tr = s.tr := rfl
@[simp] theorem raiseDecodeError_inpr : (raiseDecodeError s).inpr = s.inpr := rfl
@[simp] theorem raiseDecodeError_outr : (raiseDecodeError s).outr = s.outr := rfl
@[simp] theorem raiseDecodeError_sc : (raiseDecodeError s).sc = s.sc := rfl
@[simp] theorem raiseDecodeError_flagI : (raiseDecodeError s).flagI = s.flagI := rfl
@[simp] theorem raiseDecodeError_flagS : (raiseDecodeError s).flagS = s.flagS := rfl
@[simp] theorem raiseDecodeError_flagR : (raiseDecodeError s).flagR = s.flagR := rfl
@[simp] theorem raiseDecodeError_ien : (raiseDecodeError s).ien = s.ien := rfl
@[simp] theorem raiseDecodeError_fgi : (raiseDecodeError s).fgi = s.fgi := rfl
@[simp] theorem raiseDecodeError_fgo : (raiseDecodeError s).fgo = s.fgo := rfl
@[simp] theorem raiseDecodeError_faultReg : (raiseDecodeError s).faultReg = some (.internalDecodeError s.ir) := rfl
@[simp] theorem raiseDecodeError_mem : (raiseDecodeError s).mem = s.mem := rfl
@[simp] theorem raiseDecodeError_inputQueue : (raiseDecodeError s).inputQueue = s.inputQueue := rfl
@[simp] theorem raiseDecodeError_outputStream : (raiseDecodeError s).outputStream = s.outputStream := rfl
@[simp] theorem raiseDecodeError_outReadyScript : (raiseDecodeError s).outReadyScript = s.outReadyScript := rfl
@[simp] theorem raiseDecodeError_outReadyRest : (raiseDecodeError s).outReadyRest = s.outReadyRest := rfl

@[simp] theorem placeNextWord_ac (w : Word) : (placeNextWord w s).ac = s.ac := rfl
@[simp] theorem placeNextWord_e (w : Word) : (placeNextWord w s).e = s.e := rfl
@[simp] theorem placeNextWord_ar (w : Word) : (placeNextWord w s).ar = s.ar := rfl
@[simp] theorem placeNextWord_pc (w : Word) : (placeNextWord w s).pc = s.pc := rfl
@[simp] theorem placeNextWord_dr (w : Word) : (placeNextWord w s).dr = s.dr := rfl
@[simp] theorem placeNextWord_ir (w : Word) : (placeNextWord w s).ir = s.ir := rfl
@[simp] theorem placeNextWord_tr (w : Word) : (placeNextWord w s).tr = s.tr := rfl
@[simp] theorem placeNextWord_inpr (w : Word) : (placeNextWord w s).inpr = s.inpr := rfl
@[simp] theorem placeNextWord_outr (w : Word) : (placeNextWord w s).outr = s.outr := rfl
@[simp] theorem placeNextWord_sc (w : Word) : (placeNextWord w s).sc = 0#4 := rfl
@[simp] theorem placeNextWord_flagI (w : Word) : (placeNextWord w s).flagI = s.flagI := rfl
@[simp] theorem placeNextWord_flagS (w : Word) : (placeNextWord w s).flagS = false := rfl
@[simp] theorem placeNextWord_flagR (w : Word) : (placeNextWord w s).flagR = false := rfl
@[simp] theorem placeNextWord_ien (w : Word) : (placeNextWord w s).ien = s.ien := rfl
@[simp] theorem placeNextWord_fgi (w : Word) : (placeNextWord w s).fgi = s.fgi := rfl
@[simp] theorem placeNextWord_fgo (w : Word) : (placeNextWord w s).fgo = s.fgo := rfl
@[simp] theorem placeNextWord_faultReg (w : Word) : (placeNextWord w s).faultReg = none := rfl
@[simp] theorem placeNextWord_mem (w : Word) : (placeNextWord w s).mem = memWrite s.mem s.pc w := rfl
@[simp] theorem placeNextWord_inputQueue (w : Word) : (placeNextWord w s).inputQueue = s.inputQueue := rfl
@[simp] theorem placeNextWord_outputStream (w : Word) : (placeNextWord w s).outputStream = s.outputStream := rfl
@[simp] theorem placeNextWord_outReadyScript (w : Word) : (placeNextWord w s).outReadyScript = s.outReadyScript := rfl
@[simp] theorem placeNextWord_outReadyRest (w : Word) : (placeNextWord w s).outReadyRest = s.outReadyRest := rfl

/-- Performing the pulses of an instruction is performing them one after the other. -/
@[simp] theorem runPulses_nil : runPulses [] s = s := rfl

@[simp] theorem runPulses_cons (p : State → State) (ps : List (State → State)) :
    runPulses (p :: ps) s = runPulses ps (p s) := rfl

end Sys2Proof.Machine
end

