-- ==== Sys2Proof/Laws/Step.lean ====
section
/-! SUPPORT. What a pulse, a micro-step, an instruction and a step can do, each said once. -/

namespace Sys2Proof.Machine

variable {s t : State}

/-! ### One pulse -/

theorem pulse_interruptRT0 (hr : s.flagR = true) (hc : s.sc = 0#4) :
    pulse s = some (interruptRT0 (deviceUpdate s)) := by simp [pulse, hr, hc]

theorem pulse_interruptRT1 (hr : s.flagR = true) (hc : s.sc = 1#4) :
    pulse s = some (interruptRT1 s) := by simp [pulse, hr, hc]

theorem pulse_interruptRT2 (hr : s.flagR = true) (hc : s.sc = 2#4) :
    pulse s = some (interruptRT2 s) := by simp [pulse, hr, hc]

theorem pulse_fetchT0 (hr : s.flagR = false) (hc : s.sc = 0#4) :
    pulse s = some (fetchT0 (deviceUpdate s)) := by simp [pulse, hr, hc]

theorem pulse_fetchT1 (hr : s.flagR = false) (hc : s.sc = 1#4) :
    pulse s = some (fetchT1 s) := by simp [pulse, hr, hc]

theorem pulse_decodeT2 (hr : s.flagR = false) (hc : s.sc = 2#4) :
    pulse s = some (decodeT2 s) := by simp [pulse, hr, hc]

theorem pulse_execute (hr : s.flagR = false) (hc : 3 ≤ s.sc.toNat) : pulse s = executePulse s := by
  unfold pulse
  rw [hr]
  simp only [Bool.false_eq_true, if_false]
  split <;> first | omega | rfl

/-- Every pulse is one of these, under these conditions (40_cycle.md rule R110). -/
theorem pulse_cases (h : pulse s = some t) :
    (s.flagR = true ∧ s.sc.toNat = 0 ∧ t = interruptRT0 (deviceUpdate s)) ∨
    (s.flagR = true ∧ s.sc.toNat = 1 ∧ t = interruptRT1 s) ∨
    (s.flagR = true ∧ s.sc.toNat = 2 ∧ t = interruptRT2 s) ∨
    (s.flagR = false ∧ s.sc.toNat = 0 ∧ t = fetchT0 (deviceUpdate s)) ∨
    (s.flagR = false ∧ s.sc.toNat = 1 ∧ t = fetchT1 s) ∨
    (s.flagR = false ∧ s.sc.toNat = 2 ∧ t = decodeT2 s) ∨
    (s.flagR = false ∧ s.sc.toNat = 3 ∧ (∃ e, decode s.ir = .error e) ∧ t = raiseDecodeError s) ∨
    (s.flagR = false ∧ 3 ≤ s.sc.toNat ∧ ∃ i p, decode s.ir = .ok i ∧
      (pulsesOf i)[s.sc.toNat - 3]? = some p ∧ t = p s) := by
  unfold pulse at h
  by_cases hr : s.flagR = true
  · rw [if_pos hr] at h
    split at h <;> simp_all
  · rw [if_neg hr] at h
    rw [Bool.not_eq_true] at hr
    split at h
    · simp_all
    · simp_all
    · simp_all
    · rename_i h0 h1 h2
      unfold executePulse at h
      split at h
      · rename_i i hi
        simp only [Option.map_eq_some_iff] at h
        obtain ⟨p, hp, rfl⟩ := h
        have h3 : 3 ≤ s.sc.toNat := by
          rcases hn : s.sc.toNat with _ | _ | _ | n
          · exact absurd hn h0
          · exact absurd hn h1
          · exact absurd hn h2
          · omega
        exact Or.inr (Or.inr (Or.inr (Or.inr (Or.inr (Or.inr (Or.inr ⟨hr, h3, i, p, hi, hp, rfl⟩))))))
      · rename_i e he
        split at h
        · rename_i h3
          cases h
          simp [hr, h3, he]
        · simp at h

/-! ### One micro-step -/

theorem microStep_stepped (hf : s.faultReg = none) (hs : s.flagS = false) (hp : pulse s = some t) :
    microStep s = ⟨.stepped, t, 1⟩ := by simp [microStep, hf, hs, hp]

/-- A micro-step performs one pulse or changes nothing (rule R126). -/
theorem microStep_cases (s : State) :
    (∃ t, s.faultReg = none ∧ s.flagS = false ∧ pulse s = some t ∧ microStep s = ⟨.stepped, t, 1⟩) ∨
    (∃ f, s.faultReg = some f ∧ microStep s = ⟨.faulted f, s, 0⟩) ∨
    (s.faultReg = none ∧ s.flagS = true ∧ microStep s = ⟨.halted, s, 0⟩) ∨
    (s.faultReg = none ∧ s.flagS = false ∧ pulse s = none ∧ microStep s = ⟨.noPulse s.sc, s, 0⟩) := by
  rcases hf : s.faultReg with _ | f
  · rcases hs : s.flagS
    · rcases hp : pulse s with _ | t <;> simp [microStep, hf, hs, hp]
    · simp [microStep, hf, hs]
  · simp [microStep, hf]

/-! ### One instruction -/

/-- Every meaning is its Decode pulse, on the fields of its own word, and then its own pulses; none stops. -/
theorem exec_eq_runPulses (i : Instr) (s : State) :
    exec i s = .next (runPulses (pulsesOf i)
      (decodePulse (Laws.EncodedFields.table i).1 (Laws.EncodedFields.table i).2.2 s)) := by
  cases i <;> rfl

/-! ### One step -/

/-- Every step that answers a next state did one of these (rules R112, R126 and R128). -/
theorem step_next_cases (h : step s = .next t) :
    (s.faultReg = none ∧ s.flagS = true ∧ t = s) ∨
    (s.faultReg = none ∧ s.flagS = false ∧ s.sc = 0#4 ∧ s.flagR = true ∧ t = takeInterrupt (deviceUpdate s)) ∨
    (s.faultReg = none ∧ s.flagS = false ∧ s.sc = 0#4 ∧ s.flagR = false ∧
      ∃ i, decode (fetchWord s).ir = .ok i ∧ exec i (fetchWord s) = .next t) ∨
    (s.faultReg = none ∧ s.flagS = false ∧ s.sc = 0#4 ∧ s.flagR = false ∧
      (∃ e, decode (fetchWord s).ir = .error e) ∧ t = raiseDecodeError (decodeT2 (fetchWord s))) ∨
    (s.faultReg = none ∧ s.flagS = false ∧ s.sc ≠ 0#4 ∧ (macroStep s).outcome = .next t) := by
  unfold step at h
  split at h
  · simp at h
  · rename_i hf
    split at h
    · rename_i hs
      simp at h
      exact Or.inl ⟨hf, hs, h.symm⟩
    · rename_i hs
      rw [Bool.not_eq_true] at hs
      unfold restOfCycle at h
      split at h
      · rename_i hc
        split at h
        · rename_i hr
          simp [interruptCycle] at h
          exact Or.inr (Or.inl ⟨hf, hs, hc, hr, h.symm⟩)
        · rename_i hr
          rw [Bool.not_eq_true] at hr
          unfold instructionCycle at h
          split at h
          · rename_i i hi
            exact Or.inr (Or.inr (Or.inl ⟨hf, hs, hc, hr, i, hi, h⟩))
          · rename_i e he
            simp at h
            exact Or.inr (Or.inr (Or.inr (Or.inl ⟨hf, hs, hc, hr, ⟨e, he⟩, h.symm⟩)))
      · rename_i hc
        exact Or.inr (Or.inr (Or.inr (Or.inr ⟨hf, hs, hc, h⟩)))

end Sys2Proof.Machine
end

