-- ==== Sys2Proof/Tests/Slice0.lean ====
section
/-! SUPPORT. The model's own tests and the witnesses of the obligations. Every expected value is the spec's: the
vectors of spec/95_test_vectors.md, the words of 30_encoding.md and of opcode_table.json, or an example of the rule named. -/

namespace Sys2Proof.Tests

open Sys2Proof Sys2Proof.Machine

/-! ### Helpers -/

/-- The state after a step or an instruction, if it answers one. -/
def nextState (o : Host.Outcome State Fault Refusal) : Option State :=
  match o with
  | .next t => some t
  | .fault _ => none
  | .refused _ => none

/-- The start of the vectors of 95_test_vectors.md: the reset state, `out_ready` false. -/
def start : State := { State.reset with outReadyRest := false }

/-- One macro-step of a start state on the instruction word `w` at address `pc`. -/
def cycle (pc : Addr) (w : Nat) (s : State) : Option State :=
  nextState (step (State.withFetchWord { s with pc := pc } 16 w))

/-- A core in the middle of an instruction cycle: the word in IR is decoded, `sc` is the next pulse. -/
def midCycle (w : Word) (sc : BitVec 4) : State :=
  { start with ir := w, sc := sc, flagI := fieldI w, ar := fieldAddr w, pc := 0x101#12 }

/-- A core in an interrupt cycle. -/
def midInterrupt (sc : BitVec 4) : State := { start with sc := sc, flagR := true, ien := true, fgi := true }

/-- A Faulted core (vector UD2). -/
def faultedCore : State := { midCycle 0x7003#16 3#4 with faultReg := some (.internalDecodeError 0x7003#16) }

/-- A Halted core. -/
def haltedCore : State := { start with flagS := true }

/-! ### WellFormed -/

theorem test_wellFormed_refuses_opcode_seven : (Form.memory 7 false 0).wellFormed = false := by decide
theorem test_wellFormed_refuses_address_4096 : (Form.memory 0 false 4096).wellFormed = false := by decide
theorem test_wellFormed_refuses_register_bit_12 : (Form.register 12).wellFormed = false := by decide
theorem test_wellFormed_refuses_io_bit_5 : (Form.io 5).wellFormed = false := by decide
theorem test_wellFormed_refuses_io_bit_12 : (Form.io 12).wellFormed = false := by decide
theorem test_wellFormed_admits_the_last_of_each_field :
    (Form.memory 6 true 4095).wellFormed = true ∧ (Form.register 11).wellFormed = true ∧
      (Form.io 6).wellFormed = true := by decide

/-! ### Decode -/

/-- `I op aaaaaaaaaaaa`, rule R81 with the opcodes of rule R86; the ADD words are the source's (vector X2). -/
theorem test_decode_memory_reference :
    decode 0b0000000000010000#16 = .ok (.and false 0x010#12) ∧
    decode 0b1001000000000110#16 = .ok (.add true 0x006#12) ∧
    decode 0b0001000000000110#16 = .ok (.add false 0x006#12) ∧
    decode 0b1010000000100000#16 = .ok (.lda true 0x020#12) ∧
    decode 0b0011001000000000#16 = .ok (.sta false 0x200#12) ∧
    decode 0b1100000000000000#16 = .ok (.bun true 0x000#12) ∧
    decode 0b0101111111111111#16 = .ok (.bsa false 0xFFF#12) ∧
    decode 0b0110000000110000#16 = .ok (.isz false 0x030#12) := by
  refine ⟨rfl, rfl, rfl, rfl, rfl, rfl, rfl, rfl⟩

/-- `0111` and one bit of B11..B0 (rule R87). -/
theorem test_decode_register_reference :
    decode 0b0111100000000000#16 = .ok .cla ∧ decode 0b0111010000000000#16 = .ok .cle ∧
    decode 0b0111001000000000#16 = .ok .cma ∧ decode 0b0111000100000000#16 = .ok .cme ∧
    decode 0b0111000010000000#16 = .ok .cir ∧ decode 0b0111000001000000#16 = .ok .cil ∧
    decode 0b0111000000100000#16 = .ok .inc ∧ decode 0b0111000000010000#16 = .ok .spa ∧
    decode 0b0111000000001000#16 = .ok .sna ∧ decode 0b0111000000000100#16 = .ok .sza ∧
    decode 0b0111000000000010#16 = .ok .sze ∧ decode 0b0111000000000001#16 = .ok .hlt := by
  refine ⟨rfl, rfl, rfl, rfl, rfl, rfl, rfl, rfl, rfl, rfl, rfl, rfl⟩

/-- `1111` and one bit of B11..B6 (rule R88). -/
theorem test_decode_input_output :
    decode 0b1111100000000000#16 = .ok .inp ∧ decode 0b1111010000000000#16 = .ok .out ∧
    decode 0b1111001000000000#16 = .ok .ski ∧ decode 0b1111000100000000#16 = .ok .sko ∧
    decode 0b1111000010000000#16 = .ok .ion ∧ decode 0b1111000001000000#16 = .ok .iof := by
  refine ⟨rfl, rfl, rfl, rfl, rfl, rfl⟩

/-- The words of vectors UD1 to UD8, by the classes of rule R90. -/
theorem test_decode_undefined_words :
    decode 0x7000#16 = .error .noSelect ∧ decode 0x7003#16 = .error .severalSelects ∧
    decode 0x7FFF#16 = .error .severalSelects ∧ decode 0xF000#16 = .error .noSelect ∧
    decode 0xF001#16 = .error .ioLowSelect ∧ decode 0xF020#16 = .error .ioLowSelect ∧
    decode 0xFC00#16 = .error .severalSelects ∧ decode 0xFFFF#16 = .error .severalSelects := by
  refine ⟨rfl, rfl, rfl, rfl, rfl, rfl, rfl, rfl⟩

/-- Rule R89 on the words of 95_test_vectors.md. -/
theorem test_encode :
    encode (.add true 0x006#12) = 0x9006#16 ∧ encode (.isz true 0x040#12) = 0xE040#16 ∧
      encode .hlt = 0x7001#16 ∧ encode .iof = 0xF040#16 := by decide

theorem test_decodeTableWord :
    decodeTableWord 16 0x1006 = some (.add false 0x006#12) ∧ decodeTableWord 16 0x7003 = none := by decide

/-! ### Memory-reference instructions (section 2.1) -/

/-- MR1. -/
theorem test_and_direct :
    (cycle 0x100#12 0x0010 { start with ac := 0x00FF#16, mem := [(0x010, 0x0F0F#16)] }).map
      (fun t => (t.ac, t.dr, t.ir, t.ar, t.pc, t.sc)) =
    some (0x000F#16, 0x0F0F#16, 0x0010#16, 0x010#12, 0x101#12, 0#4) := by decide

/-- MR4, with E = 1 as in MR3. -/
theorem test_and_indirect_leaves_e :
    (cycle 0x100#12 0x8050
        { start with ac := 0x1234#16, e := true, mem := [(0x050, 0x0123#16), (0x123, 0xFF00#16)] }).map
      (fun t => (t.ac, t.e, t.dr, t.ar, t.flagI)) =
    some (0x1200#16, true, 0xFF00#16, 0x123#12, true) := by decide

/-- MR8. -/
theorem test_add_carries :
    (cycle 0x100#12 0x1006 { start with ac := 0x8000#16, mem := [(0x006, 0x8000#16)] }).map
      (fun t => (t.ac, t.e, t.dr, t.pc)) = some (0x0000#16, true, 0x8000#16, 0x101#12) := by decide

/-- MR11: bits 15:12 of the pointer are dropped; E = 1 is cleared as in MR10. -/
theorem test_add_indirect_drops_pointer_high_bits :
    (cycle 0x100#12 0x9060
        { start with ac := 0x0001#16, e := true, mem := [(0x060, 0xF070#16), (0x070, 0x0005#16)] }).map
      (fun t => (t.ac, t.e, t.ar)) = some (0x0006#16, false, 0x070#12) := by decide

/-- MR13. -/
theorem test_lda_of_its_own_word :
    (cycle 0x100#12 0x2100 { start with ac := 0x5555#16 }).map (fun t => (t.ac, t.dr, t.ar)) =
    some (0x2100#16, 0x2100#16, 0x100#12) := by decide

/-- MR14. -/
theorem test_lda_indirect :
    (cycle 0x100#12 0xA020 { start with mem := [(0x020, 0x0345#16), (0x345, 0xCAFE#16)] }).map
      (fun t => (t.ac, t.ar, t.pc)) = some (0xCAFE#16, 0x345#12, 0x101#12) := by decide

/-- MR15. -/
theorem test_sta_direct :
    (cycle 0x100#12 0x3200 { start with ac := 0xBEEF#16 }).map (fun t => (memRead t.mem 0x200#12, t.ac, t.dr)) =
    some (0xBEEF#16, 0xBEEF#16, 0#16) := by decide

/-- MR16. -/
theorem test_sta_indirect_to_address_zero :
    (cycle 0x100#12 0xB030 { start with ac := 0x1111#16 }).map (fun t => (memRead t.mem 0#12, memRead t.mem 0x030#12)) =
    some (0x1111#16, 0#16) := by decide

/-- MR17. -/
theorem test_bun_direct :
    (cycle 0x008#12 0x4005 start).map (fun t => (t.pc, t.ar, t.sc)) = some (0x005#12, 0x005#12, 0#4) := by decide

/-- MR18, the return from an interrupt. -/
theorem test_bun_zero_indirect :
    (cycle 0x100#12 0xC000 { start with mem := [(0, 0x0123#16)] }).map (fun t => (t.pc, t.ar, t.flagI)) =
    some (0x123#12, 0x123#12, true) := by decide

/-- MR28. -/
theorem test_bsa_at_the_top_of_memory :
    (cycle 0x100#12 0x5FFF start).map (fun t => (t.pc, t.ar, memRead t.mem 0xFFF#12)) =
    some (0x000#12, 0x000#12, 0x0101#16) := by decide

/-- MR31. -/
theorem test_bsa_indirect :
    (cycle 0x100#12 0xD050 { start with mem := [(0x050, 0x0200#16)] }).map
      (fun t => (t.pc, t.ar, memRead t.mem 0x200#12)) = some (0x201#12, 0x201#12, 0x0101#16) := by decide

/-- MR25: the skip wraps, the cell becomes 0. -/
theorem test_isz_skips_at_the_top_of_memory :
    (cycle 0xFFF#12 0x6030 { start with mem := [(0x030, 0xFFFF#16)] }).map
      (fun t => (t.pc, t.dr, memRead t.mem 0x030#12)) = some (0x001#12, 0#16, 0#16) := by decide

/-- MR22: 0x7FFF counts up to 0x8000 without a skip or a carry. -/
theorem test_isz_without_skip :
    (cycle 0x012#12 0x6030 { start with mem := [(0x030, 0x7FFF#16)] }).map
      (fun t => (t.pc, t.e, memRead t.mem 0x030#12)) = some (0x013#12, false, 0x8000#16) := by decide

/-! ### Register-reference instructions (section 2.2) -/

/-- RR1. -/
theorem test_cla : (cycle 0x100#12 0x7800 { start with ac := 0x1234#16, e := true }).map
    (fun t => (t.ac, t.e, t.ar, t.pc)) = some (0#16, true, 0x800#12, 0x101#12) := by decide

/-- RR2. -/
theorem test_cle : (cycle 0x100#12 0x7400 { start with ac := 0x1234#16, e := true }).map
    (fun t => (t.ac, t.e, t.ar)) = some (0x1234#16, false, 0x400#12) := by decide

/-- RR3. -/
theorem test_cma : (cycle 0x100#12 0x7200 { start with ac := 0x00F0#16 }).map (fun t => (t.ac, t.e)) =
    some (0xFF0F#16, false) := by decide

/-- RR5. -/
theorem test_cme_sets : (cycle 0x100#12 0x7100 start).map (fun t => t.e) = some true := by decide

/-- RR6. -/
theorem test_cme_clears : (cycle 0x100#12 0x7100 { start with e := true }).map (fun t => t.e) = some false := by decide

/-- RR7. -/
theorem test_cir : (cycle 0x100#12 0x7080 { start with ac := 0x0003#16, e := true }).map (fun t => (t.ac, t.e)) =
    some (0x8001#16, true) := by decide

/-- RR9. -/
theorem test_cir_moves_e_into_bit_15 :
    (cycle 0x100#12 0x7080 { start with e := true }).map (fun t => (t.ac, t.e)) = some (0x8000#16, false) := by decide

/-- RR10. -/
theorem test_cil : (cycle 0x100#12 0x7040 { start with ac := 0xC000#16 }).map (fun t => (t.ac, t.e)) =
    some (0x8000#16, true) := by decide

/-- RR12. -/
theorem test_cil_moves_e_into_bit_0 :
    (cycle 0x100#12 0x7040 { start with e := true }).map (fun t => (t.ac, t.e)) = some (0x0001#16, false) := by decide

/-- RR14. -/
theorem test_inc_wraps_without_e : (cycle 0x100#12 0x7020 { start with ac := 0xFFFF#16 }).map (fun t => (t.ac, t.e)) =
    some (0#16, false) := by decide

/-- RR15. -/
theorem test_inc_keeps_e : (cycle 0x100#12 0x7020 { start with ac := 0x7FFF#16, e := true }).map
    (fun t => (t.ac, t.e)) = some (0x8000#16, true) := by decide

/-- RR17. -/
theorem test_spa_skips_on_zero : (cycle 0x020#12 0x7010 start).map (fun t => t.pc) = some 0x022#12 := by decide

/-- RR18. -/
theorem test_spa_keeps_on_8000 :
    (cycle 0x020#12 0x7010 { start with ac := 0x8000#16 }).map (fun t => t.pc) = some 0x021#12 := by decide

/-- RR19. -/
theorem test_sna_skips_on_negative :
    (cycle 0x020#12 0x7008 { start with ac := 0xFFFE#16 }).map (fun t => t.pc) = some 0x022#12 := by decide

/-- RR20. -/
theorem test_sna_keeps_on_zero : (cycle 0x020#12 0x7008 start).map (fun t => t.pc) = some 0x021#12 := by decide

/-- RR25. -/
theorem test_sza_skips_at_the_top_of_memory :
    (cycle 0xFFF#12 0x7004 start).map (fun t => t.pc) = some 0x001#12 := by decide

/-- RR22. -/
theorem test_sza_keeps_on_one :
    (cycle 0x020#12 0x7004 { start with ac := 1#16 }).map (fun t => t.pc) = some 0x021#12 := by decide

/-- RR23. -/
theorem test_sze_skips_on_clear_e :
    (cycle 0x020#12 0x7002 { start with ac := 0x1234#16 }).map (fun t => t.pc) = some 0x022#12 := by decide

/-- RR24. -/
theorem test_sze_keeps_on_set_e :
    (cycle 0x020#12 0x7002 { start with e := true }).map (fun t => t.pc) = some 0x021#12 := by decide

/-- RR27: HLT with IEN = 1 and FGO = 1 halts without an interrupt check. -/
theorem test_hlt_makes_no_check : (cycle 0x008#12 0x7001 { start with ien := true, fgo := true }).map
    (fun t => (t.flagS, t.flagR, t.pc, t.ar, t.sc)) = some (true, false, 0x009#12, 0x001#12, 0#4) := by decide

/-! ### Input/output instructions (section 2.3) -/

/-- IO1. -/
theorem test_inp : (cycle 0x100#12 0xF800 { start with ac := 0x1200#16, inpr := 0x41#8, fgi := true }).map
    (fun t => (t.ac, t.fgi, t.inpr, t.flagI)) = some (0x1241#16, false, 0x41#8, true) := by decide

/-- IO12: INP clears the cause before the check. -/
theorem test_inp_clears_the_cause :
    (cycle 0x100#12 0xF800 { start with ien := true, fgi := true, inpr := 0x5A#8 }).map
      (fun t => (t.ac, t.fgi, t.flagR)) = some (0x005A#16, false, false) := by decide

/-- IO3. -/
theorem test_out : (cycle 0x100#12 0xF400 { start with ac := 0x1248#16, fgo := true }).map
    (fun t => (t.outr, t.fgo, t.outputStream, t.ac)) = some (0x48#8, false, [0x48#8], 0x1248#16) := by decide

/-- IO4: OUT with FGO = 0 still appends, after what is already there (rule R189). -/
theorem test_out_appends : (cycle 0x100#12 0xF400 { start with ac := 0x0021#16, outputStream := [0x48#8] }).map
    (fun t => (t.outr, t.fgo, t.outputStream)) = some (0x21#8, false, [0x48#8, 0x21#8]) := by decide

/-- IO5. -/
theorem test_ski_skips : (cycle 0x040#12 0xF200 { start with fgi := true }).map (fun t => (t.pc, t.fgi)) =
    some (0x042#12, true) := by decide

/-- IO6, with FGO = 1: SKI reads FGI alone. -/
theorem test_ski_keeps : (cycle 0x040#12 0xF200 { start with fgo := true }).map (fun t => t.pc) =
    some 0x041#12 := by decide

/-- IO7. -/
theorem test_sko_skips : (cycle 0x040#12 0xF100 { start with fgo := true }).map (fun t => (t.pc, t.fgo)) =
    some (0x042#12, true) := by decide

/-- IO8, with FGI = 1: SKO reads FGO alone. -/
theorem test_sko_keeps : (cycle 0x040#12 0xF100 { start with fgi := true }).map (fun t => t.pc) =
    some 0x041#12 := by decide

/-- IO9. -/
theorem test_ion : (cycle 0x100#12 0xF080 start).map (fun t => (t.ien, t.flagR)) = some (true, false) := by decide

/-- IO10. -/
theorem test_ion_with_fgo : (cycle 0x100#12 0xF080 { start with fgo := true }).map (fun t => (t.ien, t.flagR)) =
    some (true, true) := by decide

/-- IO11. -/
theorem test_iof : (cycle 0x100#12 0xF040 { start with ien := true, fgi := true }).map
    (fun t => (t.ien, t.flagR)) = some (false, false) := by decide

/-! ### The fault, interrupts and devices (sections 2.4, 2.6 and 2.7) -/

/-- UD6. -/
theorem test_undefined_word_faults : (cycle 0x100#12 0xF020 { start with ac := 0x1234#16 }).map
    (fun t => (t.faultReg, t.sc, t.ac, t.ar, t.pc, t.flagI)) =
    some (some (.internalDecodeError 0xF020#16), 3#4, 0x1234#16, 0x020#12, 0x101#12, true) := by decide

/-- IC1, the instruction: CLA with IEN = 1 and FGI = 1 leaves R = 1. -/
theorem test_check_sets_r : (cycle 0x100#12 0x7800 { start with ien := true, fgi := true, ac := 0x00FF#16 }).map
    (fun t => (t.flagR, t.ien, t.pc, t.ac)) = some (true, true, 0x101#12, 0#16) := by decide

/-- IC1, the interrupt cycle. -/
theorem test_interrupt_cycle :
    (nextState (step { start with flagR := true, ien := true, fgi := true, pc := 0x101#12, ir := 0x7800#16 })).map
      (fun t => ((memRead t.mem 0#12, t.tr, t.ar, t.pc), (t.ien, t.flagR, t.fgi, t.ir))) =
    some ((0x0101#16, 0x0101#16, 0#12, 1#12), (false, false, true, 0x7800#16)) := by decide

/-- DV1. -/
theorem test_device_takes_one_character :
    (fun t : State => (t.inpr, t.fgi, t.inputQueue, t.fgo))
      (microStep { start with inputQueue := [0x41#8, 0x42#8] }).state = (0x41#8, true, [0x42#8], false) := by decide

/-- DV2. -/
theorem test_device_waits_for_fgi :
    (fun t : State => (t.inpr, t.fgi, t.inputQueue))
      (microStep { start with inpr := 0x41#8, fgi := true, inputQueue := [0x42#8] }).state =
    (0x41#8, true, [0x42#8]) := by decide

/-- DV5, at an RT0. -/
theorem test_both_devices_at_rt0 :
    (fun t : State => (t.inpr, t.fgi, t.fgo, t.inputQueue, t.sc))
      (microStep { start with flagR := true, inputQueue := [0x7A#8], outReadyRest := true }).state =
    (0x7A#8, true, true, [], 1#4) := by decide

/-! ### The host interface (section 2.8) -/

/-- Rule R123: 7 pulses for ISZ, 3 for an interrupt cycle. -/
theorem test_pulse_counts :
    (macroStep (start.withFetchWord 16 0x6030)).pulses = 7 ∧ (macroStep (midInterrupt 0#4)).pulses = 3 := by decide

/-- HS1 and HS2 with one turn: the budget is checked only between macro-steps. -/
theorem test_run_overshoots_its_budget :
    (fun r : RunResult => (r.outcome, r.pulses)) (run 1 [] (State.withFetchWord { start with pc := 0x100#12 } 16 0x4100)) =
    (.budgetExhausted, 5) := by decide

/-- HS3. -/
theorem test_run_of_no_budget :
    (fun r : RunResult => (r.outcome, r.pulses)) (run 0 [] start) = (.budgetExhausted, 0) := by decide

/-- HS4. -/
theorem test_step_of_a_halted_core : macroStep haltedCore = ⟨.halted, haltedCore, 0⟩ := by decide

/-- HS5 with its first instruction. -/
theorem test_run_to_a_breakpoint :
    (fun r : RunResult => (r.outcome, r.pulses))
      (run 1000 [0x006#12] (State.withFetchWord { start with pc := 0x005#12 } 16 0x2009)) =
    (.breakpoint 0x006#12, 6) := by decide

/-- The loop of rule R129 after HLT at 0x008 (log entry 22). -/
theorem test_run_to_a_breakpoint_after_hlt :
    (fun r : RunResult => (r.outcome, r.state.flagS, r.pulses))
      (run 1000 [0x009#12] (State.withFetchWord { start with pc := 0x008#12 } 16 0x7001)) =
    (.breakpoint 0x009#12, true, 4) := by decide

/-- HS6. -/
theorem test_load_later_pair_wins :
    (resetLoad [(0x010, 0x1111), (0x010, 0x2222)] 0x010 start).toOption.map
      (fun t => (memRead t.mem 0x010#12, memRead t.mem 0x011#12, t.pc)) = some (0x2222#16, 0#16, 0x010#12) := by decide

/-- HS7. -/
theorem test_load_refusals :
    (resetLoad [(0x1000, 0)] 0 start).toOption = none ∧ (resetLoad [] 0x1000 start).toOption = none ∧
      (pushInput 256 start).toOption = none := by decide

/-- HS8: a load in the middle of a cycle, and of a Faulted core (rule R201), starts afresh. -/
theorem test_load_discards_the_cycle :
    (resetLoad [] 0x200 faultedCore).toOption.map (fun t => (t.sc, t.ir, t.ar, t.pc, t.faultReg)) =
    some (0#4, 0#16, 0#12, 0x200#12, none) := by decide

/-- Rule R111 on one state of each phase. -/
theorem test_phases :
    [phase faultedCore, phase haltedCore, phase (midInterrupt 1#4), phase (midCycle 0x1006#16 1#4),
      phase (midCycle 0x1006#16 2#4), phase (midCycle 0x1006#16 3#4), phase (midCycle 0x1006#16 4#4),
      phase (midCycle 0x7800#16 3#4)] =
    [.faulted, .halted, .interrupt, .fetch, .decode, .indirectFetch, .execute, .execute] := by decide

/-! ### Witnesses: states and operands that meet the hypotheses of the obligations -/

/-- The state after HLT, INC's and CIR's: what `exec` answers. -/
def after (i : Instr) (s : State) : State := (nextState (exec i s)).getD s

theorem witness_DecodeOfEncodeIsTheInstruction :
    (Instr.isz true 0xFFF#12).wellFormed = true ∧ (Instr.and false 0#12).wellFormed = true ∧
      Instr.hlt.wellFormed = true ∧ Instr.iof.wellFormed = true := by decide

theorem witness_EncodeOfDecodeIsTheWord :
    decode 0xEFFF#16 = .ok (.isz true 0xFFF#12) ∧ decode 0x7001#16 = .ok .hlt ∧ decode 0xF040#16 = .ok .iof :=
  ⟨rfl, rfl, rfl⟩

theorem witness_UndefinedWordsAreThoseWithoutOneSelect :
    (fieldOp 0x7000#16 = 7#3 ∧ fieldAddr 0x7000#16 = 0#12) ∧
    (fieldOp 0xF020#16 = 7#3 ∧ fieldI 0xF020#16 = true ∧ fieldAddr 0xF020#16 = 1#12 <<< 5) ∧
    (fieldOp 0xF001#16 = 7#3 ∧ fieldI 0xF001#16 = true ∧ fieldAddr 0xF001#16 = 1#12 <<< 0) ∧
    (fieldOp 0x7801#16 = 7#3 ∧ (fieldAddr 0x7801#16).getLsbD 0 = true ∧ (fieldAddr 0x7801#16).getLsbD 11 = true) := by
  decide

theorem witness_OpcodeAndIBitSelectTheShape :
    fieldOp 0xEFFF#16 ≠ 7#3 ∧ (fieldOp 0x7001#16 = 7#3 ∧ fieldI 0x7001#16 = false ∧ decode 0x7001#16 = .ok .hlt) ∧
      (fieldOp 0xF040#16 = 7#3 ∧ fieldI 0xF040#16 = true ∧ decode 0xF040#16 = .ok .iof) :=
  ⟨by decide, ⟨by decide, by decide, rfl⟩, by decide, by decide, rfl⟩

theorem witness_AluAddGivesSumAndCarryOut : (15 : Nat) < 16 := by decide

/-- T0 and T1 at the top of memory, T2, and T3 with I = 1. -/
def atT1 : State := { start with sc := 1#4, pc := 0xFFF#12, ar := 0xFFF#12 }

theorem witness_FetchDecodeAndIndirectPulses :
    (Running start ∧ start.flagR = false ∧ start.sc = 0#4) ∧
    (Running atT1 ∧ atT1.flagR = false ∧ atT1.sc = 1#4) ∧
    (Running (midCycle 0x9060#16 2#4) ∧ (midCycle 0x9060#16 2#4).flagR = false ∧ (midCycle 0x9060#16 2#4).sc = 2#4) ∧
    (Running (midCycle 0x9060#16 3#4) ∧ (midCycle 0x9060#16 3#4).flagR = false ∧ (midCycle 0x9060#16 3#4).sc = 3#4 ∧
      fieldOp (midCycle 0x9060#16 3#4).ir ≠ 7#3 ∧ (midCycle 0x9060#16 3#4).flagI = true) := by decide

theorem witness_FetchDecodeAndIndirectPulses_invariant : Machine.Inv atT1 := by
  simp only [Machine.Inv]; decide

theorem witness_DirectReferenceSpendsAnIdlePulse :
    Running (midCycle 0x6FFF#16 3#4) ∧ (midCycle 0x6FFF#16 3#4).flagR = false ∧ (midCycle 0x6FFF#16 3#4).sc = 3#4 ∧
      fieldOp (midCycle 0x6FFF#16 3#4).ir ≠ 7#3 ∧ (midCycle 0x6FFF#16 3#4).flagI = false := by decide

/-- A boundary with one character in the queue and one value in the `out_ready` script. -/
def deviceStart : State := { start with inputQueue := [0x7A#8], outReadyScript := [true] }

theorem witness_CycleStartUpdatesTheInputDevice :
    (Running deviceStart ∧ deviceStart.sc = 0#4 ∧ deviceStart.fgi = false ∧ deviceStart.inputQueue = 0x7A#8 :: []) ∧
    (Running start ∧ start.sc = 0#4 ∧ start.inputQueue = []) ∧
    (Running { deviceStart with fgi := true } ∧ deviceStart.sc = 0#4) ∧
    (midCycle 0xF800#16 3#4).sc ≠ 0#4 ∧ ¬Running haltedCore ∧ ¬Running faultedCore := by decide

theorem witness_CycleStartUpdatesTheOutputDevice :
    (Running deviceStart ∧ deviceStart.sc = 0#4 ∧ deviceStart.outReadyScript = true :: []) ∧
    (Running start ∧ start.sc = 0#4 ∧ start.outReadyScript = []) ∧
    (midCycle 0xF400#16 3#4).sc ≠ 0#4 ∧ ¬Running haltedCore := by decide

/-- Every pulse of every word meets the hypotheses that the pulse clauses of the memory-reference obligations share. -/
theorem witness_memoryReferencePulses (w : Word) (sc : BitVec 4) :
    Running (midCycle w sc) ∧ (midCycle w sc).flagR = false ∧ (midCycle w sc).ir = w ∧ (midCycle w sc).sc = sc :=
  ⟨⟨rfl, rfl⟩, rfl, rfl, rfl⟩

theorem witness_AndConjoinsTheOperandIntoAc :
    decode (midCycle 0x0010#16 4#4).ir = .ok (.and false 0x010#12) ∧ effectiveAddress [] false 0xFFF#12 = 0xFFF#12 :=
  ⟨rfl, by decide⟩

theorem witness_AddSumsTheOperandIntoAcAndE :
    decode (midCycle 0x9060#16 4#4).ir = .ok (.add true 0x060#12) ∧
      effectiveAddress [(0x060, 0xF070#16)] true 0x060#12 = 0x070#12 := ⟨rfl, by decide⟩

theorem witness_LdaLoadsTheOperandIntoAc :
    decode (midCycle 0x2009#16 4#4).ir = .ok (.lda false 0x009#12) ∧ effectiveAddress [] true 0x009#12 = 0#12 :=
  ⟨rfl, by decide⟩

/-- A canonical memory with entries at both ends. -/
def fullEnds : Memory := [(0, 0x0123#16), (0xFFF, 0xFFFF#16)]

theorem witness_StaStoresAcAtTheEffectiveAddress :
    decode (midCycle 0x3200#16 4#4).ir = .ok (.sta false 0x200#12) ∧
      effectiveAddress fullEnds true 0xFFF#12 = 0xFFF#12 ∧ Memory.wf fullEnds = true := ⟨rfl, by decide, by decide⟩

theorem witness_BunBranchesToTheEffectiveAddress :
    decode (midCycle 0xC000#16 4#4).ir = .ok (.bun true 0#12) ∧ effectiveAddress fullEnds true 0#12 = 0x123#12 :=
  ⟨rfl, by decide⟩

theorem witness_BsaSavesTheReturnAddressAndBranches :
    decode (midCycle 0x5FFF#16 4#4).ir = .ok (.bsa false 0xFFF#12) ∧
      effectiveAddress fullEnds false 0xFFF#12 = 0xFFF#12 ∧ Memory.wf fullEnds = true := ⟨rfl, by decide, by decide⟩

theorem witness_IszIncrementsMemoryAndSkipsOnZero :
    decode (midCycle 0xE040#16 6#4).ir = .ok (.isz true 0x040#12) ∧
      effectiveAddress fullEnds false 0xFFF#12 = 0xFFF#12 ∧ memRead fullEnds 0xFFF#12 = 0xFFFF#16 ∧
      Memory.wf fullEnds = true := ⟨rfl, by decide, by decide, by decide⟩

theorem witness_EffectiveAddressIsDirectOrOneLevelIndirect :
    memRead [(0x060, 0xF070#16)] 0x060#12 = 0xF#4 ++ 0x070#12 ∧ memRead fullEnds 0xFFF#12 = 0xF#4 ++ 0xFFF#12 := by decide

theorem witness_SeventeenCirculatesRestoreAcAndE :
    (exec .cir start = .next (after .cir start) ∧
      exec .cil (after .cir start) = .next (after .cil (after .cir start))) ∧
    (exec .cil start = .next (after .cil start) ∧
      exec .cir (after .cil start) = .next (after .cir (after .cil start))) := ⟨⟨rfl, rfl⟩, rfl, rfl⟩

theorem witness_ComplementThenIncrementNegates :
    exec .cma start = .next (after .cma start) ∧
      exec .inc (after .cma start) = .next (after .inc (after .cma start)) := ⟨rfl, rfl⟩

theorem witness_RegisterAndIoInstructionFrame :
    Instr.hlt ∈ [Instr.cla, .cle, .cma, .cme, .cir, .cil, .inc, .spa, .sna, .sza, .sze, .hlt,
      .inp, .out, .ski, .sko, .ion, .iof] ∧ Instr.hlt ∉ [Instr.cla, .cma, .cir, .cil, .inc, .inp] ∧
    Instr.hlt ∉ [Instr.cle, .cme, .cir, .cil] ∧ Instr.hlt ∉ [Instr.spa, .sna, .sza, .sze, .ski, .sko] ∧
    (Instr.iof ≠ .out ∧ Instr.iof ≠ .inp ∧ Instr.iof ≠ .hlt) ∧ (Instr.out ≠ .ion ∧ Instr.out ≠ .iof) ∧
    (midInterrupt 0#4).flagR = true := by decide

theorem witness_MemoryReferenceInstructionFrame :
    Instr.sta true 0xFFF#12 ∈ [Instr.and true 0xFFF#12, .add true 0xFFF#12, .lda true 0xFFF#12, .sta true 0xFFF#12,
      .bun true 0xFFF#12, .bsa true 0xFFF#12, .isz true 0xFFF#12] ∧
    Instr.sta true 0xFFF#12 ∉ [Instr.and true 0xFFF#12, .add true 0xFFF#12, .lda true 0xFFF#12, .isz true 0xFFF#12] ∧
    Instr.sta true 0xFFF#12 ∉ [Instr.bun true 0xFFF#12, .bsa true 0xFFF#12, .isz true 0xFFF#12] ∧
    Instr.bun true 0xFFF#12 ∉ [Instr.sta true 0xFFF#12, .bsa true 0xFFF#12, .isz true 0xFFF#12] ∧
    Instr.lda true 0xFFF#12 ≠ .add true 0xFFF#12 ∧
    effectiveAddress fullEnds true 0xFFF#12 = 0xFFF#12 ∧ 0#12 ≠ 0xFFF#12 := by decide

/-- The reset state with the word of `i` at PC. -/
def beforeFetch (w : Nat) : State := start.withFetchWord 16 w

theorem witness_StepRunsTheDecodedInstruction :
    (Running (beforeFetch 0xEFFF) ∧ AtBoundary (beforeFetch 0xEFFF) ∧ (beforeFetch 0xEFFF).flagR = false ∧
      (Instr.isz true 0xFFF#12).wellFormed = true) ∧
    decode (memRead (beforeFetch 0xEFFF).mem (beforeFetch 0xEFFF).pc) = .ok (.isz true 0xFFF#12) := ⟨by decide, rfl⟩

theorem witness_UndefinedWordRecordsTheFault :
    (Running (midCycle 0x7003#16 3#4) ∧ (midCycle 0x7003#16 3#4).flagR = false ∧ (midCycle 0x7003#16 3#4).sc = 3#4) ∧
    decode (midCycle 0x7003#16 3#4).ir = .error .severalSelects ∧
    (Running (beforeFetch 0xF001) ∧ AtBoundary (beforeFetch 0xF001) ∧ (beforeFetch 0xF001).flagR = false ∧
      memRead (beforeFetch 0xF001).mem (beforeFetch 0xF001).pc = 0xF001#16) ∧
    decode 0xF001#16 = .error .ioLowSelect := ⟨by decide, rfl, by decide, rfl⟩

theorem witness_InterruptCycleSavesPcAndVectorsToOne :
    (∀ sc ∈ [0#4, 1#4, 2#4], Running (midInterrupt sc) ∧ (midInterrupt sc).flagR = true ∧ (midInterrupt sc).sc = sc) ∧
    AtBoundary (midInterrupt 0#4) ∧ Memory.wf (midInterrupt 0#4).mem = true ∧ 0xFFF#12 ≠ 0#12 := by decide

theorem witness_BunZeroIndirectReturnsFromTheInterrupt :
    Running (midInterrupt 0#4) ∧ AtBoundary (midInterrupt 0#4) ∧ (midInterrupt 0#4).flagR = true ∧
      Memory.wf (midInterrupt 0#4).mem = true := by decide

/-- IO10's start. -/
def beforeIon : State := { beforeFetch 0xF080 with fgo := true }

theorem witness_InterruptIsTakenRightAfterIon :
    (Running beforeIon ∧ AtBoundary beforeIon ∧ beforeIon.flagR = false ∧ Memory.wf beforeIon.mem = true) ∧
      decode (memRead beforeIon.mem beforeIon.pc) = .ok .ion ∧
      (nextState (step beforeIon)).map (fun t => t.fgi || t.fgo) = some true := ⟨by decide, rfl, by decide⟩

theorem witness_RegisterAndIoInstructionsExecuteInOnePulse :
    (Running (midCycle 0xF040#16 3#4) ∧ (midCycle 0xF040#16 3#4).flagR = false ∧ (midCycle 0xF040#16 3#4).sc = 3#4 ∧
      fieldOp (midCycle 0xF040#16 3#4).ir = 7#3) ∧
    decode (midCycle 0xF040#16 3#4).ir = .ok .iof ∧
    (midCycle 0xF040#16 3#4).flagI = fieldI (midCycle 0xF040#16 3#4).ir ∧
    (midCycle 0xF040#16 3#4).ar = fieldAddr (midCycle 0xF040#16 3#4).ir := ⟨by decide, rfl, by decide, by decide⟩

theorem witness_HaltedAndFaultedCoresStayAsTheyAre :
    faultedCore.faultReg = some (.internalDecodeError 0x7003#16) ∧ haltedCore.faultReg = none ∧
      haltedCore.flagS = true := by decide

/-- A run ends in each of the four outcomes of rule R129. -/
theorem witness_RunObeysItsBudget :
    (run 9 [] haltedCore).outcome = .halted ∧
    (run 9 [] faultedCore).outcome = .faulted (.internalDecodeError 0x7003#16) ∧
    (run 1 [] (beforeFetch 0x4000)).outcome = .budgetExhausted ∧
    (run 1 [0xFFF#12] (beforeFetch 0x4FFF)).outcome = .breakpoint 0xFFF#12 := by decide

theorem witness_RunObeysItsBudget_invariant : Machine.Inv (beforeFetch 0x4FFF) := by
  simp only [Machine.Inv]; decide

theorem witness_CyclesTakeTheirNumberOfPulses :
    (Running (midInterrupt 0#4) ∧ AtBoundary (midInterrupt 0#4) ∧ (midInterrupt 0#4).flagR = true) ∧
    (∀ w ∈ [0x5FFF, 0xC000, 0xE040, 0x7001, 0xF020],
      Running (beforeFetch w) ∧ AtBoundary (beforeFetch w) ∧ (beforeFetch w).flagR = false) ∧
    decode (memRead (beforeFetch 0x5FFF).mem (beforeFetch 0x5FFF).pc) = .ok (.bsa false 0xFFF#12) ∧
    decode (memRead (beforeFetch 0xC000).mem (beforeFetch 0xC000).pc) = .ok (.bun true 0#12) ∧
    decode (memRead (beforeFetch 0xE040).mem (beforeFetch 0xE040).pc) = .ok (.isz true 0x040#12) ∧
    fieldOp (memRead (beforeFetch 0x7001).mem (beforeFetch 0x7001).pc) = 7#3 :=
  ⟨by decide, by decide, rfl, rfl, rfl, by decide⟩

theorem witness_PhaseNamesTheSourceState :
    Running (midCycle 0x1006#16 6#4) ∧ (midCycle 0x1006#16 6#4).flagR = false ∧ Running (midInterrupt 2#4) := by decide

/-- The invariant before the last pulse of an ISZ. -/
theorem witness_EveryMicroStepKeepsTheInvariant : Machine.Inv (midCycle 0x6FFF#16 6#4) := by
  simp only [Machine.Inv]; decide

theorem witness_invariant_of_an_interrupt_cycle : Machine.Inv (midInterrupt 2#4) := by
  simp only [Machine.Inv]; decide

theorem witness_invariant_of_a_faulted_core : Machine.Inv faultedCore := by
  simp only [Machine.Inv]; decide

theorem witness_invariant_of_a_halted_core : Machine.Inv haltedCore := by
  simp only [Machine.Inv]; decide

theorem witness_EveryStepKeepsTheInvariant :
    (Machine.Inv (midCycle 0x6FFF#16 6#4) ∧
      step (midCycle 0x6FFF#16 6#4) = .next (macroStep (midCycle 0x6FFF#16 6#4)).state) ∧
    Machine.Inv haltedCore ∧ step haltedCore = .next haltedCore :=
  ⟨⟨witness_EveryMicroStepKeepsTheInvariant, rfl⟩, witness_invariant_of_a_halted_core, rfl⟩

theorem witness_StepsAnswerNoRefusalAndOnlyTheRecordedFault :
    (Machine.Inv (midInterrupt 2#4) ∧ (midInterrupt 2#4).faultReg = none) ∧
      Machine.Inv faultedCore ∧ faultedCore.faultReg = some (.internalDecodeError 0x7003#16) :=
  ⟨⟨witness_invariant_of_an_interrupt_cycle, rfl⟩, witness_invariant_of_a_faulted_core, rfl⟩

theorem witness_HostActionsKeepTheInvariant :
    (resetLoad [(0xFFF, 0xFFFF)] 0xFFF faultedCore).toOption.isSome = true ∧ (pushInput 255 haltedCore).toOption.isSome = true := by
  decide

/-- One pulse that changes each register. -/
theorem witness_RegistersHaveOnlyTheirWriters :
    (microStep { midCycle 0xF800#16 3#4 with inpr := 0xFF#8 }).state.ac ≠ start.ac ∧
    (microStep (midCycle 0x7100#16 3#4)).state.e ≠ start.e ∧
    (microStep (midCycle 0x6FFF#16 5#4)).state.dr ≠ start.dr ∧
    (microStep (beforeFetch 0xF040 |> fun s => { s with sc := 1#4 })).state.ir ≠ start.ir ∧
    (microStep { midInterrupt 0#4 with pc := 0xFFF#12 }).state.tr ≠ start.tr ∧
    (microStep deviceStart).state.inpr ≠ start.inpr ∧
    (microStep { midCycle 0xF400#16 3#4 with ac := 0xFF#16 }).state.outr ≠ start.outr ∧
    (microStep (midCycle 0x5FFF#16 4#4)).state.ar ≠ 0xFFF#12 ∧
    (microStep (midInterrupt 2#4)).state.pc ≠ start.pc := by decide

/-- One pulse that changes each flag. -/
theorem witness_FlagsHaveOnlyTheirWriters :
    (microStep { midCycle 0xC000#16 2#4 with flagI := false }).state.flagI ≠ start.flagI ∧
    (microStep (midCycle 0x7001#16 3#4)).state.flagS ≠ start.flagS ∧
    (microStep { midCycle 0xF080#16 3#4 with fgo := true }).state.flagR ≠ start.flagR ∧
    (microStep (midInterrupt 2#4)).state.flagR ≠ (midInterrupt 2#4).flagR ∧
    (microStep (midInterrupt 2#4)).state.ien ≠ (midInterrupt 2#4).ien ∧
    (microStep deviceStart).state.fgi ≠ deviceStart.fgi ∧ (microStep deviceStart).state.fgo ≠ deviceStart.fgo ∧
    (microStep { midCycle 0xF800#16 3#4 with fgi := true }).state.fgi ≠ true ∧
    (microStep { midCycle 0xF400#16 3#4 with fgo := true }).state.fgo ≠ true ∧
    (microStep (midCycle 0xFFFF#16 3#4)).state.faultReg ≠ start.faultReg := by decide

/-- Each of the four writing pulses changes memory. -/
theorem witness_MemoryIsWrittenOnlyAtArByItsFourPulses :
    (microStep { midInterrupt 1#4 with tr := 0xFFF#16 }).state.mem ≠ start.mem ∧
    (microStep { midCycle 0x3FFF#16 4#4 with ac := 1#16 }).state.mem ≠ start.mem ∧
    (microStep (midCycle 0x5FFF#16 4#4)).state.mem ≠ start.mem ∧
    (microStep { midCycle 0x6FFF#16 6#4 with dr := 1#16 }).state.mem ≠ start.mem ∧ 0#12 ≠ 0xFFF#12 := by decide

theorem witness_OutputStreamIsAppendedOnlyByOut :
    (Running (midCycle 0xF400#16 3#4) ∧ (midCycle 0xF400#16 3#4).flagR = false ∧ (midCycle 0xF400#16 3#4).sc = 3#4) ∧
    decode (midCycle 0xF400#16 3#4).ir = .ok .out ∧ ¬Running haltedCore := ⟨by decide, rfl, by decide⟩

theorem witness_PushInputOnlyLengthensTheQueue : 255 < 256 ∧ 256 ≤ 256 := by decide

theorem witness_PushInputCommutesWithThePulsesThatDoNotTakeIt :
    (pushInput 255 haltedCore).toOption.isSome = true ∧ ¬Running haltedCore ∧
    (pushInput 0 (midCycle 0xF800#16 3#4)).toOption.isSome = true ∧ (midCycle 0xF800#16 3#4).sc ≠ 0#4 ∧
    (pushInput 0 (midInterrupt 0#4)).toOption.isSome = true ∧ (midInterrupt 0#4).fgi = true ∧
    (pushInput 0 deviceStart).toOption.isSome = true ∧ deviceStart.inputQueue ≠ [] := by decide

theorem witness_ResetLoadClearsThenLoadsInOrder :
    (∀ p ∈ [(0xFFF, 0xFFFF), (0, 0)], p.1 < 4096 ∧ p.2 < 65536) ∧ 0xFFF < 4096 := by decide

theorem witness_ResetLoadRefusesValuesOutOfRange :
    (∃ p ∈ [(4096, 0)], 4096 ≤ p.1 ∨ 65536 ≤ p.2) ∧ (∃ p ∈ [(0, 65536)], 4096 ≤ p.1 ∨ 65536 ≤ p.2) ∧ 4096 ≤ 4096 := by
  decide

theorem witness_SnapshotShowsTheWholeState : (4095 : Nat) < 4096 := by decide

/-- SM1: STA at 0x100 into 0x101. -/
theorem witness_StoreIntoTheNextInstructionIsFetched :
    Memory.wf fullEnds = true ∧ effectiveAddress fullEnds false 0x101#12 = 0x101#12 ∧
      (after (.sta false 0x101#12) { start with pc := 0x101#12, ac := 0x7001#16 }).pc = 0x101#12 := by decide

end Sys2Proof.Tests
end

section
/-! PROOFS. The encoder's memory-reference words and the decoder's dispatch on the opcode and the I bit
(30_encoding.md rules R81, R84 and R86). -/

namespace Sys2Proof

/-! ### The decoder's dispatch (rules R84 and R122) -/

/-- The opcodes 0..6 are those of the memory-reference instructions, for each value of I. -/
theorem decode_memory_word {w : Word} (hop : fieldOp w ≠ 7#3) :
    ∃ i, decode w = .ok i ∧
      i ∈ [Instr.and (fieldI w) (fieldAddr w), .add (fieldI w) (fieldAddr w), .lda (fieldI w) (fieldAddr w),
        .sta (fieldI w) (fieldAddr w), .bun (fieldI w) (fieldAddr w), .bsa (fieldI w) (fieldAddr w),
        .isz (fieldI w) (fieldAddr w)] := by
  have hlt : (fieldOp w).toNat < 7 := by bv_omega
  unfold decode
  interval_cases (fieldOp w).toNat
  all_goals exact ⟨_, rfl, by simp⟩

/-- With opcode 7 and I = 0 the select pattern alone decides. -/
theorem decode_register_word {w : Word} (hop : fieldOp w = 7#3) (hi : fieldI w = false) :
    decode w = decodeRegister (fieldAddr w) := by
  simp [decode, hop, hi]

/-- With opcode 7 and I = 1 the select pattern alone decides. -/
theorem decode_io_word {w : Word} (hop : fieldOp w = 7#3) (hi : fieldI w = true) :
    decode w = decodeIo (fieldAddr w) := by
  simp [decode, hop, hi]

/-- One line of a select table: the answer is this line's instruction or one of the lines below. -/
theorem mem_cons_of_ite_ok {c : Prop} [Decidable c] {rest : Except DecodeError Instr} {i j : Instr}
    {l : List Instr} (hrest : rest = .ok i → i ∈ l) (h : (if c then .ok j else rest) = .ok i) : i ∈ j :: l := by
  split at h
  · cases h
    exact List.mem_cons_self
  · exact List.mem_cons_of_mem j (hrest h)

/-- The table of rule R87, line by line; the patterns outside it are undefined words. -/
theorem decodeRegister_ok_mem {b : Addr} {i : Instr} :
    decodeRegister b = .ok i →
      i ∈ [Instr.cla, .cle, .cma, .cme, .cir, .cil, .inc, .spa, .sna, .sza, .sze, .hlt] := by
  unfold decodeRegister
  iterate 12 apply mem_cons_of_ite_ok
  split <;> nofun

/-- The table of rule R88, line by line; the patterns outside it are undefined words. -/
theorem decodeIo_ok_mem {b : Addr} {i : Instr} :
    decodeIo b = .ok i → i ∈ [Instr.inp, .out, .ski, .sko, .ion, .iof] := by
  unfold decodeIo
  iterate 6 apply mem_cons_of_ite_ok
  split
  · nofun
  · split <;> nofun

/-- Settles O6: one clause per branch of the decoder's dispatch. -/
theorem opcodeAndIBitSelectTheShape : Obligations.OpcodeAndIBitSelectTheShape := by
  intro w
  refine ⟨decode_memory_word, fun hop hi i hdec => ?_, fun hop hi i hdec => ?_⟩
  · rw [decode_register_word hop hi] at hdec
    exact decodeRegister_ok_mem hdec
  · rw [decode_io_word hop hi] at hdec
    exact decodeIo_ok_mem hdec

/-! ### The encoder's memory-reference words (rules R81 and R86) -/

/-- Settles O1: each mnemonic's opcode from rule R86, put between I and the address by rule R81. -/
theorem memoryReferenceWordsHoldIOpcodeAndAddress :
    Obligations.MemoryReferenceWordsHoldIOpcodeAndAddress :=
  ⟨memory_word_eq_append 0#3, memory_word_eq_append 1#3, memory_word_eq_append 2#3, memory_word_eq_append 3#3,
    memory_word_eq_append 4#3, memory_word_eq_append 5#3, memory_word_eq_append 6#3, by decide, by decide⟩

end Sys2Proof
end

section
/-! PROOFS. The ALU's conjunction and 17-bit sum, and the flags that AND and ADD leave alone
(41_memory_reference.md rules R140, R141, R143 and R144). -/

namespace Sys2Proof.Machine

/-! ### The ALU (rules R140 and R141) -/

theorem aluAnd_getLsbD (a b : Word) (k : Nat) :
    (aluAnd a b).getLsbD k = (a.getLsbD k && b.getLsbD k) :=
  BitVec.getLsbD_and

/-- Two words add up to less than 2^17, so the sum's 16 bits and the carry lose nothing. -/
theorem aluAdd_toNat (a b : Word) :
    (aluAdd a b).1.toNat + 65536 * (aluAdd a b).2.toNat = a.toNat + b.toNat := by
  rw [aluAdd_sum, aluAdd_carry, BitVec.toNat_add]
  have ha := a.isLt
  have hb := b.isLt
  by_cases hcarry : 65536 ≤ a.toNat + b.toNat
  · simp only [hcarry, decide_true, Bool.toNat_true]
    omega
  · simp only [hcarry, decide_false, Bool.toNat_false]
    omega

/-! ### AND and ADD, pulse by pulse (rules R143 and R144) -/

variable (s : State) (i : Bool) (a : Addr)

theorem exec_and_eq_next : exec (.and i a) s = .next (andT5 (loadT4 (addressT3 (decodePulse i a s)))) :=
  exec_eq_runPulses (.and i a) s

theorem exec_add_eq_next : exec (.add i a) s = .next (addT5 (loadT4 (addressT3 (decodePulse i a s)))) :=
  exec_eq_runPulses (.add i a) s

/-- T5 of AND writes no flag but R, by the interrupt check. -/
theorem andT5_flags : ((andT5 s).e, (andT5 s).flagS, (andT5 s).ien, (andT5 s).fgi, (andT5 s).fgo) =
    (s.e, s.flagS, s.ien, s.fgi, s.fgo) := by
  simp [andT5]

/-- T5 of ADD writes no flag but E, the carry, and R, by the interrupt check. -/
theorem addT5_flags : ((addT5 s).flagS, (addT5 s).ien, (addT5 s).fgi, (addT5 s).fgo) =
    (s.flagS, s.ien, s.fgi, s.fgo) := by
  simp [addT5]

/-- Settles O7: T2 to T4 write none of the named flags, so the T5 pulse alone decides. -/
theorem aluAddGivesSumAndCarryOut : Obligations.AluAddGivesSumAndCarryOut := by
  refine ⟨fun a b k _ => aluAnd_getLsbD a b k, aluAdd_toNat, fun s i a => ?_, fun s i a => ?_⟩
  · refine ⟨_, exec_and_eq_next s i a, ?_⟩
    rw [andT5_flags]
    simp
  · refine ⟨_, exec_add_eq_next s i a, ?_⟩
    rw [addT5_flags]
    simp

end Sys2Proof.Machine
end

section
/-! PROOFS. The input device update at the start of a cycle, and the pulses that leave the input device alone
(43_input_output.md rules R181 and R187). -/

namespace Sys2Proof.Machine

variable {s t : State}

/-! ### At a cycle start -/

/-- The pulse at SC = 0, T0 or RT0, follows the device update and writes nothing of the input device itself. -/
theorem microStep_cycleStart (hrun : Running s) (hsc : s.sc = 0#4) :
    ∃ t, microStep s = ⟨.stepped, t, 1⟩ ∧ t.inpr = (deviceUpdate s).inpr ∧
      t.inputQueue = (deviceUpdate s).inputQueue ∧ t.fgi = (deviceUpdate s).fgi := by
  obtain ⟨hfault, hstop⟩ := hrun
  rcases hr : s.flagR
  · exact ⟨_, microStep_stepped hfault hstop (pulse_fetchT0 hr hsc), rfl, rfl, rfl⟩
  · exact ⟨_, microStep_stepped hfault hstop (pulse_interruptRT0 hr hsc), rfl, rfl, rfl⟩

theorem takesChar_iff : takesChar s = true ↔ s.fgi = false ∧ s.inputQueue ≠ [] := by
  simp [takesChar]

theorem takesChar_eq_false_iff : takesChar s = false ↔ s.fgi = true ∨ s.inputQueue = [] := by
  rw [← Bool.not_eq_true, takesChar_iff, not_and_or, Bool.not_eq_false, not_not]

/-! ### Everywhere else -/

/-- From `s` to `t` no character was handed over: INPR and the queue stand, and FGI was not set. -/
def InputLeft (s t : State) : Prop :=
  t.inpr = s.inpr ∧ t.inputQueue = s.inputQueue ∧ (t.fgi = true → s.fgi = true)

theorem InputLeft.refl (s : State) : InputLeft s s := ⟨rfl, rfl, id⟩

/-- INP alone writes FGI, and clears it (rule R181); no other Execute pulse writes the input device. -/
theorem pulsesOf_leave_input (i : Instr) : ∀ p ∈ pulsesOf i, ∀ s, InputLeft s (p s) := by
  rw [← List.forall_iff_forall_mem]
  cases i with
  | inp => exact fun s => ⟨rfl, rfl, nofun⟩
  | isz _ _ =>
    exact ⟨fun _ => ⟨rfl, rfl, id⟩, fun _ => ⟨rfl, rfl, id⟩, fun _ => ⟨rfl, rfl, id⟩, fun _ => ⟨rfl, rfl, id⟩⟩
  | and _ _ | add _ _ | lda _ _ | bsa _ _ =>
    exact ⟨fun _ => ⟨rfl, rfl, id⟩, fun _ => ⟨rfl, rfl, id⟩, fun _ => ⟨rfl, rfl, id⟩⟩
  | sta _ _ | bun _ _ => exact ⟨fun _ => ⟨rfl, rfl, id⟩, fun _ => ⟨rfl, rfl, id⟩⟩
  | cla | cle | cma | cme | cir | cil | inc | spa | sna | sza | sze | hlt | out | ski | sko | ion | iof =>
    exact fun _ => ⟨rfl, rfl, id⟩

theorem pulse_leaves_input (h : pulse s = some t) (hsc : s.sc ≠ 0#4) : InputLeft s t := by
  have hpos : s.sc.toNat ≠ 0 := fun h0 => hsc (BitVec.eq_of_toNat_eq h0)
  rcases pulse_cases h with ⟨-, h0, -⟩ | ⟨-, -, rfl⟩ | ⟨-, -, rfl⟩ | ⟨-, h0, -⟩ | ⟨-, -, rfl⟩ | ⟨-, -, rfl⟩ |
    ⟨-, -, -, rfl⟩ | ⟨-, -, i, p, -, hp, rfl⟩
  · exact absurd h0 hpos
  · exact ⟨rfl, rfl, id⟩
  · exact ⟨rfl, rfl, id⟩
  · exact absurd h0 hpos
  · exact ⟨rfl, rfl, id⟩
  · exact ⟨rfl, rfl, id⟩
  · exact ⟨rfl, rfl, id⟩
  · exact pulsesOf_leave_input i p (List.mem_of_getElem? hp) s

theorem microStep_leaves_input (h : s.sc ≠ 0#4 ∨ ¬Running s) : InputLeft s (microStep s).state := by
  rcases microStep_cases s with ⟨t, hfault, hstop, hp, hm⟩ | ⟨f, -, hm⟩ | ⟨-, -, hm⟩ | ⟨-, -, -, hm⟩ <;> rw [hm]
  case inl => exact pulse_leaves_input hp (h.resolve_right (not_not_intro ⟨hfault, hstop⟩))
  all_goals exact .refl s

/-- Settles O10: the device update decides at a cycle start, and no pulse stands in for it elsewhere. -/
theorem cycleStartUpdatesTheInputDevice : Obligations.CycleStartUpdatesTheInputDevice := by
  refine ⟨fun s c q hrun hsc hfgi hq => ?_, fun s hrun hsc hkeep => ?_, fun s h => microStep_leaves_input h⟩
  · have htakes : takesChar s = true := takesChar_iff.mpr ⟨hfgi, by simp [hq]⟩
    obtain ⟨t, hm, hinpr, hqueue, hflag⟩ := microStep_cycleStart hrun hsc
    simp [hm, hinpr, hqueue, hflag, htakes, hq]
  · have htakes : takesChar s = false := takesChar_eq_false_iff.mpr hkeep
    obtain ⟨t, hm, hinpr, hqueue, hflag⟩ := microStep_cycleStart hrun hsc
    simp [hm, hinpr, hqueue, hflag, htakes]

end Sys2Proof.Machine
end

section
/-! PROOFS. The output stream: OUT appends to it, and every other pulse commutes with replacing it, so none of
them writes or reads it (43_input_output.md rules R182 and R189). -/

namespace Sys2Proof.Machine

variable {s : State}

/-- The state with another stream in place of its own. -/
def State.withOutputStream (o : List Char8) (s : State) : State := { s with outputStream := o }

section
variable (o : List Char8) (s : State)

@[simp] theorem withOutputStream_faultReg : (s.withOutputStream o).faultReg = s.faultReg := rfl
@[simp] theorem withOutputStream_flagS : (s.withOutputStream o).flagS = s.flagS := rfl
@[simp] theorem withOutputStream_flagR : (s.withOutputStream o).flagR = s.flagR := rfl
@[simp] theorem withOutputStream_sc : (s.withOutputStream o).sc = s.sc := rfl
@[simp] theorem withOutputStream_ir : (s.withOutputStream o).ir = s.ir := rfl

end

/-- The pulse neither writes nor reads the output stream. -/
def IgnoresOutputStream (p : State → State) : Prop :=
  ∀ o s, p (s.withOutputStream o) = (p s).withOutputStream o

/-- The next pulse is T3 of OUT. -/
abbrev AtOutT3 (s : State) : Prop := s.flagR = false ∧ s.sc = 3#4 ∧ decode s.ir = .ok .out

/-! ### One pulse -/

theorem pulsesOf_ignore_outputStream {i : Instr} (hi : i ≠ .out) :
    ∀ p ∈ pulsesOf i, IgnoresOutputStream p := by
  rw [← List.forall_iff_forall_mem]
  cases i with
  | out => exact absurd rfl hi
  | isz _ _ => exact ⟨fun _ _ => rfl, fun _ _ => rfl, fun _ _ => rfl, fun _ _ => rfl⟩
  | and _ _ | add _ _ | lda _ _ | bsa _ _ => exact ⟨fun _ _ => rfl, fun _ _ => rfl, fun _ _ => rfl⟩
  | sta _ _ | bun _ _ => exact ⟨fun _ _ => rfl, fun _ _ => rfl⟩
  | cla | cle | cma | cme | cir | cil | inc | spa | sna | sza | sze | hlt | inp | ski | sko | ion | iof =>
    exact fun _ _ => rfl

theorem executePulse_of_ok {i : Instr} (hdec : decode s.ir = .ok i) :
    executePulse s = (pulsesOf i)[s.sc.toNat - 3]?.map (fun p => p s) := by
  simp [executePulse, hdec]

theorem executePulse_of_error {e : DecodeError} (hdec : decode s.ir = .error e) :
    executePulse s = if s.sc = 3#4 then some (raiseDecodeError s) else none := by
  simp [executePulse, hdec]

/-- With OUT decoded, there is no pulse beyond T3 and so nothing to commute. -/
theorem executePulse_withOutputStream (o : List Char8) (hsc : 3 ≤ s.sc.toNat)
    (hout : ¬(s.sc = 3#4 ∧ decode s.ir = .ok .out)) :
    executePulse (s.withOutputStream o) = (executePulse s).map (State.withOutputStream o) := by
  rcases hdec : decode s.ir with e | i
  · rw [executePulse_of_error hdec, executePulse_of_error (s := s.withOutputStream o) hdec,
      apply_ite (Option.map (State.withOutputStream o))]
    rfl
  · rw [executePulse_of_ok hdec, executePulse_of_ok (s := s.withOutputStream o) hdec, Option.map_map]
    refine Option.map_congr fun p hp => ?_
    have hi : i ≠ .out := by
      rintro rfl
      have hlt : s.sc.toNat - 3 < 1 := (List.getElem?_eq_some_iff.mp hp).1
      exact hout ⟨by bv_omega, hdec⟩
    exact pulsesOf_ignore_outputStream hi p (List.mem_of_getElem? hp) o s

theorem pulse_withOutputStream (o : List Char8) (hout : ¬AtOutT3 s) :
    pulse (s.withOutputStream o) = (pulse s).map (State.withOutputStream o) := by
  rcases hr : s.flagR <;> simp only [pulse, withOutputStream_flagR, withOutputStream_sc, hr]
  · rcases hn : s.sc.toNat with _ | _ | _ | n
    · rfl
    · rfl
    · rfl
    · exact executePulse_withOutputStream o (by omega) fun h => hout ⟨hr, h⟩
  · rcases s.sc.toNat with _ | _ | _ | n <;> rfl

theorem pulse_outT3 (h : AtOutT3 s) : pulse s = some (outT3 s) := by
  obtain ⟨hr, hsc, hdec⟩ := h
  rw [pulse_execute hr (by rw [hsc]; decide)]
  simp [executePulse_of_ok hdec, hsc, pulsesOf, outPulses]

/-! ### One micro-step -/

theorem microStep_outT3 (hrun : Running s) (h : AtOutT3 s) : microStep s = ⟨.stepped, outT3 s, 1⟩ :=
  microStep_stepped hrun.1 hrun.2 (pulse_outT3 h)

theorem microStep_withOutputStream (o : List Char8) (hout : ¬(Running s ∧ AtOutT3 s)) :
    microStep (s.withOutputStream o) =
      ⟨(microStep s).kind, (microStep s).state.withOutputStream o, (microStep s).pulses⟩ := by
  rcases hfault : s.faultReg with _ | f
  · rcases hstop : s.flagS
    · have hpulse := pulse_withOutputStream o fun h => hout ⟨⟨hfault, hstop⟩, h⟩
      rcases hp : pulse s with _ | t <;> simp [microStep, hfault, hstop, hpulse, hp]
    · simp [microStep, hfault, hstop]
  · simp [microStep, hfault]

/-- Replacing the stream by itself changes nothing, so what commutes with it leaves the stream as it is. -/
theorem microStep_keeps_outputStream (hout : ¬(Running s ∧ AtOutT3 s)) :
    (microStep s).state.outputStream = s.outputStream :=
  congrArg (fun r => r.state.outputStream) (microStep_withOutputStream s.outputStream hout)

/-- Settles O52: the transfers of T3 of OUT show what it appends; every other micro-step commutes with replacing
the stream. -/
theorem outputStreamIsAppendedOnlyByOut : Obligations.OutputStreamIsAppendedOnlyByOut := by
  refine ⟨fun s => ⟨fun ⟨hrun, hout⟩ => ?_, microStep_keeps_outputStream⟩, fun s o => ?_⟩
  · rw [microStep_outT3 hrun hout]
    rfl
  · change (microStep (s.withOutputStream o)).kind = _ ∧ (microStep (s.withOutputStream o)).pulses = _ ∧
      (microStep (s.withOutputStream o)).state.withOutputStream [] = (microStep s).state.withOutputStream []
    by_cases hout : Running s ∧ AtOutT3 s
    · obtain ⟨hrun, hout⟩ := hout
      rw [microStep_outT3 hrun hout, microStep_outT3 (s := s.withOutputStream o) hrun hout]
      exact ⟨rfl, rfl, rfl⟩
    · rw [microStep_withOutputStream o hout]
      exact ⟨rfl, rfl, rfl⟩

end Sys2Proof.Machine
end


section
/-! PROOFS. The decoder and the encoder are inverse to each other, by way of the three fields of a word
(30_encoding.md rules R81, R86 to R89 and R91). -/

namespace Sys2Proof

/-! ### Words and their fields -/

theorem word_ext_fields {v w : Word}
    (h : (fieldI v, fieldOp v, fieldAddr v) = (fieldI w, fieldOp w, fieldAddr w)) : v = w := by
  rw [← word_eq_fields v, ← word_eq_fields w]
  simp only [Prod.mk.injEq] at h
  obtain ⟨hI, hOp, hAddr⟩ := h
  rw [hI, hOp, hAddr]

/-- The law of the encoded fields, of every instruction at once. -/
theorem encode_fields (i : Instr) :
    (fieldI (encode i), fieldOp (encode i), fieldAddr (encode i)) = Laws.EncodedFields.table i := by
  cases i with
  | and d a => exact Laws.EncodedFields.and d a
  | add d a => exact Laws.EncodedFields.add d a
  | lda d a => exact Laws.EncodedFields.lda d a
  | sta d a => exact Laws.EncodedFields.sta d a
  | bun d a => exact Laws.EncodedFields.bun d a
  | bsa d a => exact Laws.EncodedFields.bsa d a
  | isz d a => exact Laws.EncodedFields.isz d a
  | cla | cle | cma | cme | cir | cil | inc | spa | sna | sza | sze | hlt | inp | out | ski | sko | ion | iof => rfl

/-! ### Decoding an encoded instruction -/

/-- The decoder reads the three fields and nothing else, so it gives back what the encoder put there. -/
theorem decode_encode (i : Instr) : decode (encode i) = .ok i := by
  have hfields := encode_fields i
  cases i with
  | and d a | add d a | lda d a | sta d a | bun d a | bsa d a | isz d a =>
    simp only [Laws.EncodedFields.table, Prod.mk.injEq] at hfields
    obtain ⟨hI, hOp, hAddr⟩ := hfields
    simp [decode, hI, hOp, hAddr]
  | cla | cle | cma | cme | cir | cil | inc | spa | sna | sza | sze | hlt | inp | out | ski | sko | ion | iof => rfl

/-- Settles O3: the operand's width makes every instruction well formed, so the round trip needs no case of it. -/
theorem decodeOfEncodeIsTheInstruction : Obligations.DecodeOfEncodeIsTheInstruction :=
  fun i _ => decode_encode i

/-- Settles O2: each row is the round trip of its instruction, whose word is computed. -/
theorem oneHotWordsDecodeToTheirInstructions : Obligations.OneHotWordsDecodeToTheirInstructions :=
  ⟨⟨decode_encode .cla, rfl⟩, ⟨decode_encode .cle, rfl⟩, ⟨decode_encode .cma, rfl⟩, ⟨decode_encode .cme, rfl⟩,
    ⟨decode_encode .cir, rfl⟩, ⟨decode_encode .cil, rfl⟩, ⟨decode_encode .inc, rfl⟩, ⟨decode_encode .spa, rfl⟩,
    ⟨decode_encode .sna, rfl⟩, ⟨decode_encode .sza, rfl⟩, ⟨decode_encode .sze, rfl⟩, ⟨decode_encode .hlt, rfl⟩,
    ⟨decode_encode .inp, rfl⟩, ⟨decode_encode .out, rfl⟩, ⟨decode_encode .ski, rfl⟩, ⟨decode_encode .sko, rfl⟩,
    ⟨decode_encode .ion, rfl⟩, ⟨decode_encode .iof, rfl⟩⟩

/-! ### Encoding a decoded word -/

/-- One line of a select table: its instruction's fields are those of the word, if those of the lines below are. -/
theorem fields_of_ite_ok {b c : Addr} {d : Bool} {i j : Instr} {rest : Except DecodeError Instr}
    (hline : Laws.EncodedFields.table j = (d, 7#3, c))
    (hrest : rest = .ok i → Laws.EncodedFields.table i = (d, 7#3, b))
    (h : (if b = c then .ok j else rest) = .ok i) : Laws.EncodedFields.table i = (d, 7#3, b) := by
  split at h
  · rename_i hb
    cases h
    rw [hline, hb]
  · exact hrest h

theorem decodeRegister_ok_fields {b : Addr} {i : Instr} :
    decodeRegister b = .ok i → Laws.EncodedFields.table i = (false, 7#3, b) := by
  unfold decodeRegister
  iterate 12 refine fields_of_ite_ok rfl ?_
  split <;> nofun

theorem decodeIo_ok_fields {b : Addr} {i : Instr} :
    decodeIo b = .ok i → Laws.EncodedFields.table i = (true, 7#3, b) := by
  unfold decodeIo
  iterate 6 refine fields_of_ite_ok rfl ?_
  split
  · nofun
  · split <;> nofun

theorem fieldOp_eq_seven_or_lt (w : Word) : fieldOp w = 7#3 ∨ (fieldOp w).toNat < 7 := by
  bv_omega

/-- The fields of a defined word are those that the table gives to its instruction. -/
theorem decode_ok_fields {w : Word} {i : Instr} (h : decode w = .ok i) :
    Laws.EncodedFields.table i = (fieldI w, fieldOp w, fieldAddr w) := by
  rcases fieldOp_eq_seven_or_lt w with hop | hlt
  · rcases hI : fieldI w
    · rw [decode_register_word hop hI] at h
      rw [decodeRegister_ok_fields h, hop]
    · rw [decode_io_word hop hI] at h
      rw [decodeIo_ok_fields h, hop]
  · have hop : fieldOp w = BitVec.ofNat 3 (fieldOp w).toNat := by simp
    unfold decode at h
    interval_cases (fieldOp w).toNat
    all_goals
      cases h
      rw [hop]
      rfl

/-- Settles O4: a word and the word of its instruction hold the same fields. -/
theorem encodeOfDecodeIsTheWord : Obligations.EncodeOfDecodeIsTheWord :=
  fun _ i h => word_ext_fields ((encode_fields i).trans (decode_ok_fields h))

end Sys2Proof
end

section
/-! PROOFS. The undefined words and the decoder's reason for each (30_encoding.md rule R90). -/

namespace Sys2Proof

/-! ### Select patterns: no bit, one bit, several bits -/

/-- Two different bits of a pattern are set. -/
def SeveralBits (b : Addr) : Prop := ∃ j k, j < k ∧ k < 12 ∧ b.getLsbD j = true ∧ b.getLsbD k = true

/-- Bit `k`, and no other bit, of a pattern is set. -/
def OneBit (b : Addr) (k : Nat) : Prop := b = 1#12 <<< k

theorem getLsbD_one_shiftLeft {j k : Nat} (hj : j < 12) : (1#12 <<< k).getLsbD j = decide (j = k) := by
  rw [BitVec.getLsbD_shiftLeft, BitVec.getLsbD_one]
  by_cases h : j = k
  · simp [h ▸ hj, h]
  · simp [h]
    omega

theorem not_severalBits_of_oneBit {b : Addr} {k : Nat} (h : OneBit b k) : ¬SeveralBits b := by
  rintro ⟨j, l, hjl, hl, hj, hlb⟩
  rw [h, getLsbD_one_shiftLeft (by omega), decide_eq_true_eq] at hj hlb
  omega

theorem not_severalBits_zero : ¬SeveralBits 0#12 := by
  rintro ⟨j, _, -, -, hj, -⟩
  simp at hj

theorem exists_bit_of_ne_zero {b : Addr} (h : b ≠ 0#12) : ∃ k, k < 12 ∧ b.getLsbD k = true := by
  by_contra hno
  push Not at hno
  refine h (BitVec.eq_of_getLsbD_eq fun k hk => ?_)
  simpa using hno k hk

/-- Every pattern is of one of three kinds. -/
theorem severalBits_of_no_oneBit {b : Addr} (h0 : b ≠ 0#12) (h1 : ∀ k < 12, ¬OneBit b k) : SeveralBits b := by
  obtain ⟨k, hk, hbk⟩ := exists_bit_of_ne_zero h0
  by_contra hno
  refine h1 k hk (BitVec.eq_of_getLsbD_eq fun j hj => ?_)
  rw [getLsbD_one_shiftLeft hj]
  rcases Nat.lt_trichotomy j k with hlt | rfl | hgt
  · have hbj : ¬b.getLsbD j = true := fun hbj => hno ⟨j, k, hlt, hk, hbj, hbk⟩
    simp [hbj, hlt.ne]
  · simp [hbk]
  · have hbj : ¬b.getLsbD j = true := fun hbj => hno ⟨k, j, hgt, hj, hbk, hbj⟩
    simp [hbj, hgt.ne']


/-! ### The decoder on each kind of pattern -/

/-- Bit `k` selects an instruction: each of the twelve bits with I = 0, bits 11:6 with I = 1. -/
def Selects (w : Word) (k : Nat) : Prop := k < 12 ∧ (fieldI w = true → 6 ≤ k) ∧ OneBit (fieldAddr w) k

theorem decodeRegister_oneBit {b : Addr} {k : Nat} (hk : k < 12) (h : OneBit b k) :
    ∃ i, decodeRegister b = .ok i := by
  rw [h]
  interval_cases k <;> exact ⟨_, rfl⟩

theorem decodeIo_highBit {b : Addr} {k : Nat} (hk : 6 ≤ k ∧ k < 12) (h : OneBit b k) :
    ∃ i, decodeIo b = .ok i := by
  obtain ⟨hlo, hhi⟩ := hk
  rw [h]
  interval_cases k <;> exact ⟨_, rfl⟩

theorem decodeIo_lowBit {b : Addr} {k : Nat} (hk : k < 6) (h : OneBit b k) :
    decodeIo b = .error .ioLowSelect := by
  rw [h]
  interval_cases k <;> rfl

section
variable {b : Addr} (h : SeveralBits b)
include h

theorem ne_oneBit_of_severalBits (k : Nat) : b ≠ 1#12 <<< k := fun hb => not_severalBits_of_oneBit hb h

theorem ne_zero_of_severalBits : b ≠ 0#12 := fun hb => not_severalBits_zero (hb ▸ h)

/-- Every line of the table of rule R87 asks for a single bit. -/
theorem decodeRegister_severalBits : decodeRegister b = .error .severalSelects := by
  have hne := ne_oneBit_of_severalBits h
  unfold decodeRegister
  exact (if_neg (hne 11)).trans <| (if_neg (hne 10)).trans <| (if_neg (hne 9)).trans <| (if_neg (hne 8)).trans <|
    (if_neg (hne 7)).trans <| (if_neg (hne 6)).trans <| (if_neg (hne 5)).trans <| (if_neg (hne 4)).trans <|
    (if_neg (hne 3)).trans <| (if_neg (hne 2)).trans <| (if_neg (hne 1)).trans <| (if_neg (hne 0)).trans <|
    if_neg (ne_zero_of_severalBits h)

theorem lowSelect_severalBits : lowSelect b = false := by
  have hne := fun k => beq_false_of_ne (ne_oneBit_of_severalBits h k)
  unfold lowSelect
  simp only [Bool.or_eq_false_iff]
  exact ⟨⟨⟨⟨⟨hne 5, hne 4⟩, hne 3⟩, hne 2⟩, hne 1⟩, hne 0⟩

/-- Every line of the table of rule R88, and the test for bits 5:0, asks for a single bit. -/
theorem decodeIo_severalBits : decodeIo b = .error .severalSelects := by
  have hne := ne_oneBit_of_severalBits h
  unfold decodeIo
  exact (if_neg (hne 11)).trans <| (if_neg (hne 10)).trans <| (if_neg (hne 9)).trans <| (if_neg (hne 8)).trans <|
    (if_neg (hne 7)).trans <| (if_neg (hne 6)).trans <| (if_neg (ne_zero_of_severalBits h)).trans <|
    if_neg (Bool.eq_false_iff.mp (lowSelect_severalBits h))

end

section
variable {w : Word} (hop : fieldOp w = 7#3)
include hop

theorem decode_noSelect (h : fieldAddr w = 0#12) : decode w = .error .noSelect := by
  rcases hI : fieldI w
  · rw [decode_register_word hop hI, h]
    rfl
  · rw [decode_io_word hop hI, h]
    rfl

theorem decode_severalSelects (h : SeveralBits (fieldAddr w)) : decode w = .error .severalSelects := by
  rcases hI : fieldI w
  · rw [decode_register_word hop hI, decodeRegister_severalBits h]
  · rw [decode_io_word hop hI, decodeIo_severalBits h]

theorem decode_ioLowSelect (hI : fieldI w = true) {k : Nat} (hk : k < 6) (h : OneBit (fieldAddr w) k) :
    decode w = .error .ioLowSelect := by
  rw [decode_io_word hop hI, decodeIo_lowBit hk h]

theorem decode_selected {k : Nat} (h : Selects w k) : ∃ i, decode w = .ok i := by
  obtain ⟨hk, hhigh, hbit⟩ := h
  rcases hI : fieldI w
  · rw [decode_register_word hop hI]
    exact decodeRegister_oneBit hk hbit
  · rw [decode_io_word hop hI]
    exact decodeIo_highBit ⟨hhigh hI, hk⟩ hbit

end

/-- Every word, by what the decoder says of it and why. -/
theorem decode_classes (w : Word) :
    ((∃ i, decode w = .ok i) ∧ (fieldOp w = 7#3 → ∃ k, Selects w k)) ∨
    (fieldOp w = 7#3 ∧ decode w = .error .noSelect ∧ fieldAddr w = 0#12) ∨
    (fieldOp w = 7#3 ∧ decode w = .error .ioLowSelect ∧ fieldI w = true ∧ ∃ k < 6, OneBit (fieldAddr w) k) ∨
    (fieldOp w = 7#3 ∧ decode w = .error .severalSelects ∧ SeveralBits (fieldAddr w)) := by
  by_cases hop : fieldOp w = 7#3
  · by_cases h0 : fieldAddr w = 0#12
    · exact .inr (.inl ⟨hop, decode_noSelect hop h0, h0⟩)
    · by_cases h1 : ∃ k < 12, OneBit (fieldAddr w) k
      · obtain ⟨k, hk, hbit⟩ := h1
        by_cases hlow : fieldI w = true ∧ k < 6
        · exact .inr (.inr (.inl ⟨hop, decode_ioLowSelect hop hlow.1 hlow.2 hbit, hlow.1, k, hlow.2, hbit⟩))
        · have hsel : Selects w k := ⟨hk, fun hI => not_lt.mp fun hk6 => hlow ⟨hI, hk6⟩, hbit⟩
          exact .inl ⟨decode_selected hop hsel, fun _ => ⟨k, hsel⟩⟩
      · push Not at h1
        have hsev := severalBits_of_no_oneBit h0 h1
        exact .inr (.inr (.inr ⟨hop, decode_severalSelects hop hsev, hsev⟩))
  · obtain ⟨i, hdec, -⟩ := decode_memory_word hop
    exact .inl ⟨⟨i, hdec⟩, fun h => absurd h hop⟩

/-- No bit selects an instruction in an undefined word. -/
theorem not_selects_of_error {w : Word} {e : DecodeError} (hop : fieldOp w = 7#3) (h : decode w = .error e) :
    ¬∃ k, Selects w k := by
  rintro ⟨k, hsel⟩
  obtain ⟨i, hdec⟩ := decode_selected hop hsel
  rw [hdec] at h
  cases h

theorem decode_error_iff (w : Word) :
    (∃ e, decode w = .error e) ↔ fieldOp w = 7#3 ∧ ¬∃ k, Selects w k := by
  constructor
  · rintro ⟨e, he⟩
    rcases decode_classes w with ⟨⟨i, hdec⟩, -⟩ | ⟨hop, -⟩ | ⟨hop, -⟩ | ⟨hop, -⟩
    case inl => rw [he] at hdec; cases hdec
    all_goals exact ⟨hop, not_selects_of_error hop he⟩
  · rintro ⟨hop, hno⟩
    rcases decode_classes w with ⟨-, hsel⟩ | ⟨-, hdec, -⟩ | ⟨-, hdec, -⟩ | ⟨-, hdec, -⟩
    case inl => exact absurd (hsel hop) hno
    all_goals exact ⟨_, hdec⟩

/-- Settles O5: the kinds of word exclude each other, so the decoder's answer tells the kind. -/
theorem undefinedWordsAreThoseWithoutOneSelect : Obligations.UndefinedWordsAreThoseWithoutOneSelect := by
  refine ⟨decode_error_iff, fun w => ⟨fun h => ?_, fun ⟨hop, h0⟩ => decode_noSelect hop h0⟩,
    fun w => ⟨fun h => ?_, fun ⟨hop, hI, k, hk, hbit⟩ => decode_ioLowSelect hop hI hk hbit⟩,
    fun w => ⟨fun h => ?_, fun ⟨hop, hsev⟩ => decode_severalSelects hop hsev⟩⟩
  all_goals
    rcases decode_classes w with ⟨⟨i, hdec⟩, -⟩ | ⟨hop, hdec, hkind⟩ | ⟨hop, hdec, hkind⟩ | ⟨hop, hdec, hkind⟩ <;>
      rw [h] at hdec <;> cases hdec
    exact ⟨hop, hkind⟩

end Sys2Proof
end


section
/-! PROOFS. How the Execute pulses of an instruction follow one another: each but the last leads to the next value
of SC, the last ends the cycle (40_cycle.md rules R110, R117 to R121). -/

namespace Sys2Proof.Machine

variable {s t u : State}

/-! ### The two kinds of Execute pulse -/

/-- From `s` to `t` the instruction cycle goes on to SC = `n`. -/
structure LeadsTo (n : Nat) (s t : State) : Prop where
  sc : t.sc.toNat = n
  ir : t.ir = s.ir
  tr : t.tr = s.tr
  flagI : t.flagI = s.flagI
  flagS : t.flagS = s.flagS
  flagR : t.flagR = s.flagR
  faultReg : t.faultReg = s.faultReg
  mem : Memory.wf s.mem = true → Memory.wf t.mem = true

/-- From `s` to `t` the instruction cycle ends: SC = 0, and the check or HLT, not both, had its effect. -/
structure EndsCycle (s t : State) : Prop where
  sc : t.sc = 0#4
  tr : t.tr = s.tr
  faultReg : t.faultReg = s.faultReg
  flagR : s.flagR = false → t.flagR = true → t.ien = true
  flagS : s.flagS = false → s.flagR = false → t.flagS = true → t.flagR = false
  mem : Memory.wf s.mem = true → Memory.wf t.mem = true

/-- R after the end of a cycle, in the terms of the statements (rule R206). -/
theorem endCycle_eq (s : State) : endCycle s = { s with sc := 0#4, flagR := checkedR s } := by
  have hR : (if interruptRequest s.ien s.fgi s.fgo then true else s.flagR) = checkedR s := by
    cases hc : interruptRequest s.ien s.fgi s.fgo <;> simp_all [interruptRequest]
  simp only [endCycle, interruptCheck]
  rw [hR]

/-- A pulse that writes none of TR, FAULT, S and R before the check ends the cycle well. -/
theorem EndsCycle.endCycle (htr : u.tr = s.tr) (hfault : u.faultReg = s.faultReg) (hS : u.flagS = s.flagS)
    (hR : u.flagR = s.flagR) (hmem : Memory.wf s.mem = true → Memory.wf u.mem = true) :
    EndsCycle s (endCycle u) where
  sc := rfl
  tr := htr
  faultReg := hfault
  flagR h h' := by
    rw [endCycle_eq, checkedR, hR, h] at h'
    exact (Bool.and_eq_true_iff.mp h').1
  flagS h _ h' := absurd h' (by rw [endCycle_flagS, hS, h]; decide)
  mem := hmem

theorem hltT3_endsCycle (s : State) : EndsCycle s (hltT3 s) where
  sc := rfl
  tr := rfl
  faultReg := rfl
  flagR h h' := absurd (h.symm.trans h') (by decide)
  flagS _ h _ := h
  mem := id

theorem addressT3_leadsTo (s : State) : LeadsTo 4 s (addressT3 s) := ⟨rfl, rfl, rfl, rfl, rfl, rfl, rfl, id⟩
theorem loadT4_leadsTo (s : State) : LeadsTo 5 s (loadT4 s) := ⟨rfl, rfl, rfl, rfl, rfl, rfl, rfl, id⟩
theorem bsaT4_leadsTo (s : State) : LeadsTo 5 s (bsaT4 s) :=
  ⟨rfl, rfl, rfl, rfl, rfl, rfl, rfl, fun h => memWrite_wf h _ _⟩
theorem iszT5_leadsTo (s : State) : LeadsTo 6 s (iszT5 s) := ⟨rfl, rfl, rfl, rfl, rfl, rfl, rfl, id⟩

/-! ### The pulses of an instruction in order -/

/-- The pulses, the first of them at SC = `n`, lead from one to the next, and the last ends the cycle. -/
def Sequenced : Nat → List (State → State) → Prop
  | _, [] => False
  | _, [p] => ∀ s, EndsCycle s (p s)
  | n, p :: q :: ps => (∀ s, LeadsTo (n + 1) s (p s)) ∧ Sequenced (n + 1) (q :: ps)

theorem pulsesOf_sequenced (i : Instr) : Sequenced 3 (pulsesOf i) := by
  cases i with
  | and _ _ | add _ _ | lda _ _ =>
    exact ⟨addressT3_leadsTo, loadT4_leadsTo, fun _ => .endCycle rfl rfl rfl rfl id⟩
  | sta _ _ => exact ⟨addressT3_leadsTo, fun _ => .endCycle rfl rfl rfl rfl fun h => memWrite_wf h _ _⟩
  | bun _ _ => exact ⟨addressT3_leadsTo, fun _ => .endCycle rfl rfl rfl rfl id⟩
  | bsa _ _ => exact ⟨addressT3_leadsTo, bsaT4_leadsTo, fun _ => .endCycle rfl rfl rfl rfl id⟩
  | isz _ _ =>
    exact ⟨addressT3_leadsTo, loadT4_leadsTo, iszT5_leadsTo,
      fun _ => .endCycle rfl rfl rfl rfl fun h => memWrite_wf h _ _⟩
  | hlt => exact hltT3_endsCycle
  | cla | cle | cma | cme | cir | cil | inc | spa | sna | sza | sze | inp | out | ski | sko | ion | iof =>
    exact fun _ => .endCycle rfl rfl rfl rfl id

/-- The pulse at index `k` of a sequence that starts at SC = `n`. -/
theorem Sequenced.pulse_at {n k : Nat} {ps : List (State → State)} {p : State → State} (h : Sequenced n ps)
    (hp : ps[k]? = some p) (s : State) :
    (k + 1 < ps.length ∧ LeadsTo (n + k + 1) s (p s)) ∨ (k + 1 = ps.length ∧ EndsCycle s (p s)) := by
  induction ps generalizing n k with
  | nil => simp at hp
  | cons q ps ih =>
    cases ps with
    | nil =>
      have hk : k = 0 := by simpa using (List.getElem?_eq_some_iff.mp hp).1
      subst hk
      cases hp
      exact .inr ⟨rfl, h s⟩
    | cons r ps =>
      obtain ⟨hq, hrest⟩ := h
      cases k with
      | zero =>
        cases hp
        exact .inl ⟨by simp, hq s⟩
      | succ k =>
        rcases ih hrest hp with ⟨hk, hlead⟩ | ⟨hk, hend⟩
        · refine .inl ⟨by simpa using hk, ?_⟩
          rwa [show n + (k + 1) + 1 = n + 1 + k + 1 by omega]
        · exact .inr ⟨by simpa using hk, hend⟩

/-! ### How many there are (rule R123) -/

theorem pulsesOf_length_le_four (i : Instr) : (pulsesOf i).length ≤ 4 := by
  cases i <;> exact Nat.le_of_ble_eq_true rfl

theorem pulseCount_le_seven (i : Instr) : pulseCount i ≤ 7 :=
  Nat.add_le_add_left (pulsesOf_length_le_four i) 3

/-- An instruction with opcode 7 has one Execute pulse. -/
theorem pulseCount_of_opcode_seven {i : Instr} (h : (Laws.EncodedFields.table i).2.1 = 7#3) : pulseCount i = 4 := by
  cases i with
  | and _ _ | add _ _ | lda _ _ | sta _ _ | bun _ _ | bsa _ _ | isz _ _ => simp [Laws.EncodedFields.table] at h
  | cla | cle | cma | cme | cir | cil | inc | spa | sna | sza | sze | hlt | inp | out | ski | sko | ion | iof => rfl

theorem pulseCount_of_decode {w : Word} {i : Instr} (hdec : decode w = .ok i) (hop : fieldOp w = 7#3) :
    pulseCount i = 4 :=
  pulseCount_of_opcode_seven (by rw [decode_ok_fields hdec]; exact hop)

/-- A word with another opcode is a memory-reference instruction, with the idle or indirect pulse T3. -/
theorem pulsesOf_head_of_decode {w : Word} {i : Instr} (hdec : decode w = .ok i) (hop : fieldOp w ≠ 7#3) :
    (pulsesOf i)[0]? = some addressT3 := by
  have htable : (Laws.EncodedFields.table i).2.1 ≠ 7#3 := by rw [decode_ok_fields hdec]; exact hop
  cases i with
  | and _ _ | add _ _ | lda _ _ | sta _ _ | bun _ _ | bsa _ _ | isz _ _ => rfl
  | cla | cle | cma | cme | cir | cil | inc | spa | sna | sza | sze | hlt | inp | out | ski | sko | ion | iof =>
    exact absurd rfl htable

end Sys2Proof.Machine
end

section
/-! PROOFS. A `macroStep`, pulse by pulse: the interrupt cycle, the cycle of a defined word, the cycle of an undefined
word; and that `step` is `macroStep` (40_cycle.md rules R110, R123 and R128). -/

namespace Sys2Proof.Machine

variable {s t : State} {i : Instr} {fuel : Nat}

/-! ### One more pulse -/

theorem cycleDone_of_sc_zero (h : s.sc = 0#4) : cycleDone s = true := by
  simp [cycleDone, h]

theorem cycleDone_eq_false (hrun : Running s) (hsc : s.sc ≠ 0#4) : cycleDone s = false := by
  simp [cycleDone, hrun, hsc]

theorem microSteps_done (hm : microStep s = ⟨.stepped, t, 1⟩) (hdone : cycleDone t = true) :
    microSteps (fuel + 1) s = ⟨.stepped, t, 1⟩ := by
  simp [microSteps, hm, hdone]

theorem microSteps_more {r : StepResult} (hm : microStep s = ⟨.stepped, t, 1⟩) (hdone : cycleDone t = false)
    (hrest : microSteps fuel t = r) : microSteps (fuel + 1) s = ⟨r.kind, r.state, 1 + r.pulses⟩ := by
  simp [microSteps, hm, hdone, hrest]

/-- The micro-step of an Execute pulse. -/
theorem microStep_execute {p : State → State} (hrun : Running s) (hR : s.flagR = false) (hdec : decode s.ir = .ok i)
    (hsc : 3 ≤ s.sc.toNat) (hp : (pulsesOf i)[s.sc.toNat - 3]? = some p) : microStep s = ⟨.stepped, p s, 1⟩ := by
  refine microStep_stepped hrun.1 hrun.2 ?_
  rw [pulse_execute hR hsc, executePulse_of_ok hdec, hp]
  rfl

/-- The micro-step of the faulting pulse (rule R200). -/
theorem microStep_undefined {e : DecodeError} (hrun : Running s) (hR : s.flagR = false) (hsc : s.sc = 3#4)
    (hdec : decode s.ir = .error e) : microStep s = ⟨.stepped, raiseDecodeError s, 1⟩ := by
  refine microStep_stepped hrun.1 hrun.2 ?_
  rw [pulse_execute hR (by rw [hsc]; decide), executePulse_of_error hdec, if_pos hsc]

/-! ### The rest of an instruction's cycle -/

/-- From the pulse after `front` on, the micro-steps are the remaining pulses of the instruction in IR. -/
theorem microSteps_execute {front ps : List (State → State)} (hlist : pulsesOf i = front ++ ps)
    (hseq : Sequenced (front.length + 3) ps) (hfuel : ps.length ≤ fuel) (hrun : Running s) (hR : s.flagR = false)
    (hdec : decode s.ir = .ok i) (hsc : s.sc.toNat = front.length + 3) :
    microSteps fuel s = ⟨.stepped, runPulses ps s, ps.length⟩ := by
  induction ps generalizing front fuel s with
  | nil => exact hseq.elim
  | cons p ps ih =>
    obtain ⟨fuel, rfl⟩ := Nat.exists_eq_add_of_lt (Nat.lt_of_lt_of_le (Nat.zero_lt_succ _) hfuel)
    rw [Nat.zero_add] at hfuel ⊢
    have hp : (pulsesOf i)[s.sc.toNat - 3]? = some p := by simp [hlist, hsc]
    have hm := microStep_execute hrun hR hdec (by omega) hp
    cases ps with
    | nil => exact microSteps_done hm (cycleDone_of_sc_zero (hseq s).sc)
    | cons q ps =>
      obtain ⟨hlead, hseq⟩ := hseq
      have hnext := hlead s
      have hrun' : Running (p s) := ⟨hnext.faultReg.trans hrun.1, hnext.flagS.trans hrun.2⟩
      have hsc' : (p s).sc.toNat = (front ++ [p]).length + 3 := by rw [hnext.sc, List.length_append]; rfl
      have hrest := ih (front := front ++ [p]) (by simp [hlist]) (by simpa [Nat.add_right_comm] using hseq)
        (by simpa using hfuel) hrun' (hnext.flagR.trans hR) (hnext.ir ▸ hdec) hsc'
      have hdone : cycleDone (p s) = false := cycleDone_eq_false hrun' (by intro h0; rw [h0] at hsc'; simp at hsc')
      rw [microSteps_more hm hdone hrest]
      simp [Nat.add_comm]

/-! ### The three kinds of cycle from a boundary -/

theorem decodeT2_of_decode (hdec : decode s.ir = .ok i) :
    decodeT2 s = decodePulse (Laws.EncodedFields.table i).1 (Laws.EncodedFields.table i).2.2 s := by
  rw [decode_ok_fields hdec]
  rfl

section
variable (hrun : Running s) (hsc : AtBoundary s)
include hrun hsc

/-- RT0 to RT2. -/
theorem macroStep_interrupt (hR : s.flagR = true) : macroStep s = ⟨.stepped, takeInterrupt (deviceUpdate s), 3⟩ := by
  obtain ⟨hfault, hstop⟩ := hrun
  have h0 := microStep_stepped hfault hstop (pulse_interruptRT0 hR hsc)
  have h1 := microStep_stepped (s := interruptRT0 (deviceUpdate s)) hfault hstop (pulse_interruptRT1 hR rfl)
  have h2 := microStep_stepped (s := interruptRT1 (interruptRT0 (deviceUpdate s))) hfault hstop
    (pulse_interruptRT2 hR rfl)
  exact microSteps_more h0 (cycleDone_eq_false ⟨hfault, hstop⟩ (by simp))
    (microSteps_more h1 (cycleDone_eq_false ⟨hfault, hstop⟩ (by simp)) (microSteps_done h2 (cycleDone_of_sc_zero rfl)))

/-- T0 to T2 of an instruction cycle, with the remaining micro-steps still to come. -/
theorem macroStep_fetch {n : Nat} (hR : s.flagR = false)
    (hrest : microSteps 4 (decodeT2 (fetchWord s)) = ⟨.stepped, t, n⟩) : macroStep s = ⟨.stepped, t, 3 + n⟩ := by
  obtain ⟨hfault, hstop⟩ := hrun
  have h0 := microStep_stepped hfault hstop (pulse_fetchT0 hR hsc)
  have h1 := microStep_stepped (s := fetchT0 (deviceUpdate s)) hfault hstop (pulse_fetchT1 hR rfl)
  have h2 := microStep_stepped (s := fetchWord s) hfault hstop (pulse_decodeT2 hR rfl)
  have hall : macroStep s = ⟨.stepped, t, 1 + (1 + (1 + n))⟩ :=
    microSteps_more h0 (cycleDone_eq_false ⟨hfault, hstop⟩ (by simp))
      (microSteps_more h1 (cycleDone_eq_false ⟨hfault, hstop⟩ (by simp))
        (microSteps_more h2 (cycleDone_eq_false ⟨hfault, hstop⟩ (by simp)) hrest))
  rw [hall, show 1 + (1 + (1 + n)) = 3 + n by omega]

/-- A defined word: its own pulses follow T2. -/
theorem macroStep_instruction (hR : s.flagR = false) (hdec : decode (fetchWord s).ir = .ok i) :
    macroStep s = ⟨.stepped, runPulses (pulsesOf i) (decodeT2 (fetchWord s)), pulseCount i⟩ :=
  macroStep_fetch hrun hsc hR (microSteps_execute (front := []) rfl (pulsesOf_sequenced i)
    (pulsesOf_length_le_four i) hrun hR hdec rfl)

/-- An undefined word: the fault is recorded at T3. -/
theorem macroStep_undefined {e : DecodeError} (hR : s.flagR = false) (hdec : decode (fetchWord s).ir = .error e) :
    macroStep s = ⟨.stepped, raiseDecodeError (decodeT2 (fetchWord s)), 4⟩ := by
  have hm := microStep_undefined (s := decodeT2 (fetchWord s)) hrun hR rfl hdec
  exact macroStep_fetch hrun hsc hR (microSteps_done hm (by simp [cycleDone]))

end

/-! ### step is `macroStep` (rule R128) -/

theorem macroStep_faulted {f : Fault} (hfault : s.faultReg = some f) : macroStep s = ⟨.faulted f, s, 0⟩ := by
  simp [macroStep, longestCycle, microSteps, microStep, hfault]

theorem macroStep_halted (hfault : s.faultReg = none) (hstop : s.flagS = true) : macroStep s = ⟨.halted, s, 0⟩ := by
  simp [macroStep, longestCycle, microSteps, microStep, hfault, hstop]

theorem step_running (hrun : Running s) : step s = restOfCycle s := by
  simp [step, hrun]

/-- At a boundary the whole-instruction meanings and the sequencer's pulses answer the same. -/
theorem restOfCycle_eq_macroStep (hrun : Running s) : restOfCycle s = (macroStep s).outcome := by
  unfold restOfCycle
  by_cases hsc : s.sc = 0#4
  · rw [if_pos hsc]
    rcases hR : s.flagR
    · rw [if_neg (by decide)]
      unfold instructionCycle
      rcases hdec : decode (fetchWord s).ir with e | i
      · rw [macroStep_undefined hrun hsc hR hdec]
        rfl
      · rw [macroStep_instruction hrun hsc hR hdec, decodeT2_of_decode hdec]
        exact exec_eq_runPulses i (fetchWord s)
    · rw [if_pos rfl, macroStep_interrupt hrun hsc hR]
      rfl
  · rw [if_neg hsc]

/-- Settles O39: a stopped core by what both answer of it, a running one by its kind of cycle. -/
theorem stepIsTheMacroStep : Obligations.StepIsTheMacroStep := by
  intro s
  rcases hfault : s.faultReg with _ | f
  · rcases hstop : s.flagS
    · rw [step_running ⟨hfault, hstop⟩, restOfCycle_eq_macroStep ⟨hfault, hstop⟩]
    · rw [macroStep_halted hfault hstop]
      simp [step, hfault, hstop, StepResult.outcome]
  · rw [macroStep_faulted hfault]
    simp [step, hfault, StepResult.outcome]

end Sys2Proof.Machine
end


section
/-! PROOFS. A `macroStep` and a run are their micro-steps (40_cycle.md rule R130). -/

namespace Sys2Proof.Machine

variable {s : State}

/-- The state after a micro-step. -/
def microState (s : State) : State := (microStep s).state

/-- A micro-step counts one pulse if it performed one, else it counts none and changes nothing. -/
theorem microStep_eq_iterate (s : State) : (microStep s).state = microState^[(microStep s).pulses] s := by
  rcases microStep_cases s with ⟨t, -, -, -, hm⟩ | ⟨f, -, hm⟩ | ⟨-, -, hm⟩ | ⟨-, -, -, hm⟩
  case inl => simp [microState, hm]
  all_goals simp [hm]

/-- What up to `fuel + 1` micro-steps do, by what the first of them does. -/
theorem microSteps_succ_cases (fuel : Nat) (s : State) :
    microSteps (fuel + 1) s = microStep s ∨
    (cycleDone (microState s) = false ∧ (microSteps (fuel + 1) s).kind = (microSteps fuel (microState s)).kind ∧
      (microSteps (fuel + 1) s).state = (microSteps fuel (microState s)).state ∧
      (microSteps (fuel + 1) s).pulses = (microSteps fuel (microState s)).pulses + 1) := by
  rw [microSteps]
  split
  case h_1 =>
    split
    · exact .inl rfl
    · exact .inr ⟨Bool.eq_false_iff.mpr ‹_›, rfl, rfl, Nat.add_comm _ _⟩
  case h_2 => exact .inl rfl

theorem microSteps_eq_iterate (fuel : Nat) (s : State) :
    (microSteps fuel s).state = microState^[(microSteps fuel s).pulses] s := by
  induction fuel generalizing s with
  | zero => rfl
  | succ fuel ih =>
    rcases microSteps_succ_cases fuel s with hm | ⟨-, -, hstate, hpulses⟩
    · rw [hm]
      exact microStep_eq_iterate s
    · rw [hstate, hpulses, Function.iterate_succ_apply, ← ih]

theorem macroStep_eq_iterate (s : State) : (macroStep s).state = microState^[(macroStep s).pulses] s :=
  microSteps_eq_iterate longestCycle s

theorem microStep_pulses_le (s : State) : (microStep s).pulses ≤ 1 := by
  rcases microStep_cases s with ⟨t, -, -, -, hm⟩ | ⟨f, -, hm⟩ | ⟨-, -, hm⟩ | ⟨-, -, -, hm⟩ <;> simp [hm]

theorem microSteps_pulses_le (fuel : Nat) (s : State) : (microSteps fuel s).pulses ≤ fuel := by
  induction fuel generalizing s with
  | zero => exact Nat.le_refl 0
  | succ fuel ih =>
    rcases microSteps_succ_cases fuel s with hm | ⟨-, -, -, hpulses⟩
    · have hone := microStep_pulses_le s
      rw [hm]
      omega
    · rw [hpulses]
      exact Nat.succ_le_succ (ih _)

theorem macroStep_pulses_le (s : State) : (macroStep s).pulses ≤ 7 := microSteps_pulses_le longestCycle s

/-- A running core's `macroStep` performs a pulse, or there is none to perform. -/
theorem macroStep_pulses_pos (hrun : Running s) (hkind : ∀ sc, (macroStep s).kind ≠ .noPulse sc) :
    0 < (macroStep s).pulses := by
  obtain ⟨hfault, hstop⟩ := hrun
  rcases microSteps_succ_cases 6 s with hm | ⟨-, -, -, hpulses⟩
  · rw [macroStep, longestCycle, hm] at hkind ⊢
    rcases microStep_cases s with ⟨t, -, -, -, h⟩ | ⟨f, h, -⟩ | ⟨-, h, -⟩ | ⟨-, -, -, h⟩
    · rw [h]
      exact Nat.zero_lt_one
    · rw [hfault] at h
      cases h
    · rw [hstop] at h
      cases h
    · exact absurd (congrArg StepResult.kind h) (hkind s.sc)
  · rw [macroStep, longestCycle, hpulses]
    exact Nat.succ_pos _

/-! ### A run, turn by turn (rule R129) -/

/-- Induction on the turns of a run's loop: `P n s r` relates the `n` pulses performed before it, the state it begins
with and what it returns. While a turn is left for each micro-step of the budget, the turns do not run out first. -/
theorem runLoop_induction {budget : Nat} {bps : List Addr} {P : Nat → State → RunResult → Prop}
    (faulted : ∀ n s f, s.faultReg = some f → P n s ⟨.faulted f, s, n⟩)
    (halted : ∀ n s, EndedWell s → P n s ⟨.halted, s, n⟩)
    (exhausted : ∀ n s, Running s → budget ≤ n → P n s ⟨.budgetExhausted, s, n⟩)
    (noPulse : ∀ n s sc, n < budget → (macroStep s).kind = .noPulse sc →
      P n s ⟨.noPulse sc, (macroStep s).state, n + (macroStep s).pulses⟩)
    (breakpoint : ∀ n s, n < budget → atBreakpoint bps (macroStep s).state = true →
      P n s ⟨.breakpoint (macroStep s).state.pc, (macroStep s).state, n + (macroStep s).pulses⟩)
    (turn : ∀ n s r, n < budget → P (n + (macroStep s).pulses) (macroStep s).state r → P n s r)
    (fuel n : Nat) (s : State) (hfuel : budget ≤ n + fuel) : P n s (runLoop budget bps fuel n s) := by
  induction fuel generalizing n s with
  | zero =>
    rw [runLoop]
    split
    · exact faulted n s _ ‹_›
    · split
      · exact halted n s ⟨‹_›, ‹_›⟩
      · exact exhausted n s ⟨‹_›, Bool.eq_false_iff.mpr ‹_›⟩ hfuel
  | succ fuel ih =>
    rw [runLoop]
    split
    · exact faulted n s _ ‹_›
    · rename_i hfault
      split
      · exact halted n s ⟨‹_›, hfault⟩
      · have hrun : Running s := ⟨hfault, Bool.eq_false_iff.mpr ‹_›⟩
        split
        · exact exhausted n s hrun ‹_›
        · have hlt : n < budget := Nat.lt_of_not_le ‹_›
          split
          · exact noPulse n s _ hlt ‹_›
          · rename_i hkind
            split
            · exact breakpoint n s hlt ‹_›
            · have hpos := macroStep_pulses_pos hrun hkind
              exact turn n s _ hlt (ih _ _ (by omega))

/-- The pulses a run counts are the micro-steps from the state it began with. -/
theorem run_eq_iterate (budget : Nat) (bps : List Addr) (s : State) :
    (run budget bps s).state = microState^[(run budget bps s).pulses] s := by
  suffices h : ∃ k, (run budget bps s).pulses = 0 + k ∧ (run budget bps s).state = microState^[k] s by
    obtain ⟨k, hk, hstate⟩ := h
    rw [hk, hstate, Nat.zero_add]
  refine runLoop_induction (P := fun n s r => ∃ k, r.pulses = n + k ∧ r.state = microState^[k] s)
    (fun _ _ _ _ => ⟨0, rfl, rfl⟩) (fun _ _ _ => ⟨0, rfl, rfl⟩) (fun _ _ _ _ => ⟨0, rfl, rfl⟩)
    (fun _ s _ _ _ => ⟨_, rfl, macroStep_eq_iterate s⟩) (fun _ s _ _ => ⟨_, rfl, macroStep_eq_iterate s⟩)
    (fun n s r _ hr => ?_) budget 0 s (by omega)
  obtain ⟨k, hk, hstate⟩ := hr
  refine ⟨k + (macroStep s).pulses, by omega, ?_⟩
  rw [hstate, macroStep_eq_iterate, Function.iterate_add_apply]

/-- Settles O40: by induction on the micro-steps of a `macroStep` and on the turns of a run. -/
theorem granularityDoesNotChangeTheResult : Obligations.GranularityDoesNotChangeTheResult :=
  ⟨macroStep_eq_iterate, fun s budget bps => run_eq_iterate budget bps s⟩

end Sys2Proof.Machine
end


section
/-! PROOFS. The invariant, pulse by pulse; a state that meets it has a pulse; and what it says of steps
(10_state.md rule R45, 40_cycle.md rule R110). -/

namespace Sys2Proof.Machine

variable {s t : State} {i : Instr}

/-! ### Ways to meet the invariant -/

theorem pulseListed_of_ok (hdec : decode s.ir = .ok i) : pulseListed s = true ↔ s.sc.toNat < pulseCount i := by
  simp [pulseListed, hdec]

theorem pulseListed_at_three (h : s.sc = 3#4) : pulseListed s = true := by
  rcases hdec : decode s.ir with e | i
  · simp [pulseListed, hdec, h]
  · rw [pulseListed_of_ok hdec, h, pulseCount]
    cases i <;> exact Nat.lt_of_sub_pos (Nat.zero_lt_succ _)

/-- Only a memory-reference instruction has a pulse beyond T3. -/
theorem sc_le_three_of_opcode_seven (h : pulseListed s = true) (hop : fieldOp s.ir = 7#3) : s.sc.toNat ≤ 3 := by
  rcases hdec : decode s.ir with e | i
  · simpa [pulseListed, hdec] using h
  · rw [pulseListed_of_ok hdec, pulseCount_of_decode hdec hop] at h
    omega

theorem sc_le_six_of_listed (h : pulseListed s = true) : s.sc.toNat ≤ 6 := by
  rcases hdec : decode s.ir with e | i
  · have h3 : s.sc.toNat ≤ 3 := by simpa [pulseListed, hdec] using h
    omega
  · rw [pulseListed_of_ok hdec] at h
    have hcount := pulseCount_le_seven i
    omega

/-- At a cycle boundary of a core that is not Faulted. -/
theorem inv_of_boundary (hmem : Memory.wf s.mem = true) (hsc : s.sc = 0#4) (htr : s.tr.extractLsb' 12 4 = 0#4)
    (hR : s.flagR = true → s.ien = true) (hS : s.flagS = true → s.flagR = false) (hfault : s.faultReg = none) :
    Inv s := by
  refine ⟨hmem, ⟨?_, ?_, ?_, ?_⟩, ⟨?_, ?_, ?_, ?_, ?_, ?_, htr⟩, ⟨hR, fun h => ⟨hsc, hS h⟩⟩, ?_⟩ <;>
    simp [hsc, hfault, faultRecorded]

/-- At SC = 1 and 2, in either kind of cycle. -/
theorem inv_of_early (hmem : Memory.wf s.mem = true) (hsc : s.sc = 1#4 ∨ s.sc = 2#4)
    (hfetch : s.sc = 1#4 → s.flagR = false → s.ar = s.pc) (har : s.flagR = true → s.ar = 0#12)
    (hpc : s.sc = 2#4 → s.flagR = true → s.pc = 0#12) (htr : s.tr.extractLsb' 12 4 = 0#4)
    (hR : s.flagR = true → s.ien = true) (hrun : Running s) : Inv s := by
  obtain ⟨hfault, hstop⟩ := hrun
  have hle : s.sc.toNat ≤ 2 := by rcases hsc with h | h <;> simp [h]
  have h3 : ¬3 ≤ s.sc.toNat := by omega
  exact ⟨hmem, ⟨by omega, fun _ => hle, fun h => h.2 hfault, fun h4 => absurd h4 (by omega)⟩,
    ⟨fun h => absurd h h3, fun h => absurd h h3, fun h => absurd (h ▸ Nat.le_refl 3) h3, hfetch, fun _ => har, hpc,
      htr⟩,
    ⟨hR, fun h => absurd (hstop.symm.trans h) (by decide)⟩, by simp [faultRecorded, hfault]⟩

/-- Before T3 and every later pulse. -/
theorem inv_of_execute (hmem : Memory.wf s.mem = true) (hsc : 3 ≤ s.sc.toNat) (hlisted : pulseListed s = true)
    (hI : s.flagI = fieldI s.ir) (har : s.sc = 3#4 → s.ar = fieldAddr s.ir) (htr : s.tr.extractLsb' 12 4 = 0#4)
    (hR : s.flagR = false) (hS : s.flagS = false) (hfault : faultRecorded s = true) : Inv s := by
  have h0 : s.sc ≠ 0#4 := by rintro h; rw [h] at hsc; simp at hsc
  have h1 : s.sc ≠ 1#4 := by rintro h; rw [h] at hsc; simp at hsc
  refine ⟨hmem, ⟨sc_le_six_of_listed hlisted, ?_, ?_, fun h4 => ⟨hR, fun hop => ?_⟩⟩,
    ⟨fun _ => hlisted, fun _ => hI, har, fun h => absurd h h1, ?_, ?_, htr⟩, ⟨?_, ?_⟩, hfault⟩
  case refine_3 =>
    have h3 := sc_le_three_of_opcode_seven hlisted hop
    omega
  all_goals simp [hR, hS]

theorem zext16_high_zero (a : Addr) : (zext16 a).extractLsb' 12 4 = 0#4 := by
  have h := a.isLt
  apply BitVec.eq_of_toNat_eq
  simp [zext16, Nat.shiftRight_eq_div_pow]
  omega

/-! ### Every pulse keeps it -/

/-- A fault is recorded in no running core. -/
theorem faultRecorded_of_none (h : s.faultReg = none) : faultRecorded s = true := by
  simp [faultRecorded, h]

theorem inv_executePulse {p : State → State} (h : Inv s) (hrun : Running s) (hR : s.flagR = false)
    (hsc : 3 ≤ s.sc.toNat) (hdec : decode s.ir = .ok i) (hp : (pulsesOf i)[s.sc.toNat - 3]? = some p) :
    Inv (p s) := by
  obtain ⟨hmem, -, ⟨-, hI, -, -, -, -, htr⟩, -, -⟩ := h
  rcases (pulsesOf_sequenced i).pulse_at hp s with ⟨hlt, hnext⟩ | ⟨-, hend⟩
  · have hsc' : (p s).sc.toNat = s.sc.toNat + 1 := by rw [hnext.sc]; omega
    refine inv_of_execute (hnext.mem hmem) (by omega) ?_ ?_ ?_ (hnext.tr ▸ htr) (hnext.flagR.trans hR)
      (hnext.flagS.trans hrun.2) (faultRecorded_of_none (hnext.faultReg.trans hrun.1))
    · rw [pulseListed_of_ok (hnext.ir ▸ hdec), hsc', pulseCount]
      omega
    · rw [hnext.flagI, hnext.ir, hI hsc]
    · intro h3
      rw [h3] at hsc'
      simp at hsc'
      omega
  · exact inv_of_boundary (hend.mem hmem) hend.sc (hend.tr ▸ htr) (hend.flagR hR) (hend.flagS hrun.2 hR)
      (hend.faultReg.trans hrun.1)

theorem inv_pulse (h : Inv s) (hrun : Running s) (hp : pulse s = some t) : Inv t := by
  have hall := h
  obtain ⟨hmem, -, ⟨hlisted, hI, hAR3, -, hAR, hPC, htr⟩, ⟨hRien, -⟩, -⟩ := h
  rcases pulse_cases hp with ⟨hR, -, rfl⟩ | ⟨hR, hsc, rfl⟩ | ⟨hR, hsc, rfl⟩ | ⟨hR, hsc, rfl⟩ | ⟨hR, -, rfl⟩ |
    ⟨hR, -, rfl⟩ | ⟨hR, hsc, ⟨e, hdec⟩, rfl⟩ | ⟨hR, hsc, i, p, hdec, hpi, rfl⟩
  · exact inv_of_early hmem (.inl rfl) (by simp [hR]) (fun _ => rfl) nofun (zext16_high_zero _) hRien hrun
  · have hne : s.sc ≠ 0#4 := by rintro h0; rw [h0] at hsc; simp at hsc
    exact inv_of_early (memWrite_wf hmem _ _) (.inr rfl) nofun (hAR hne) (fun _ _ => rfl) htr hRien hrun
  · exact inv_of_boundary hmem rfl htr nofun (fun _ => rfl) hrun.1
  · exact inv_of_early hmem (.inl rfl) (fun _ _ => rfl) (by simp [hR]) nofun htr hRien hrun
  · exact inv_of_early hmem (.inr rfl) nofun (by simp [hR]) (by simp [hR]) htr hRien hrun
  · exact inv_of_execute hmem (Nat.le_refl 3) (pulseListed_at_three rfl) rfl (fun _ => rfl) htr hR hrun.2
      (faultRecorded_of_none hrun.1)
  · have hsc3 : s.sc = 3#4 := BitVec.eq_of_toNat_eq hsc
    exact inv_of_execute hmem hsc.ge (hlisted hsc.ge) (hI hsc.ge) hAR3 htr hR hrun.2
      (by simp [faultRecorded, hsc3, hR, hdec, Except.toOption])
  · exact inv_executePulse hall hrun hR hsc hdec hpi

/-! ### There is always a pulse -/

theorem exists_pulse_of_inv (h : Inv s) : ∃ t, pulse s = some t := by
  obtain ⟨-, ⟨-, hRsc, -, -⟩, ⟨hlisted, -⟩, -, -⟩ := h
  rcases hR : s.flagR
  · rcases hn : s.sc.toNat with _ | _ | _ | n
    · exact ⟨_, pulse_fetchT0 hR (BitVec.eq_of_toNat_eq hn)⟩
    · exact ⟨_, pulse_fetchT1 hR (BitVec.eq_of_toNat_eq hn)⟩
    · exact ⟨_, pulse_decodeT2 hR (BitVec.eq_of_toNat_eq hn)⟩
    · have hlisted := hlisted (by omega)
      rw [pulse_execute hR (by omega)]
      rcases hdec : decode s.ir with e | i
      · have h3 : s.sc.toNat ≤ 3 := by simpa [pulseListed, hdec] using hlisted
        exact ⟨_, (executePulse_of_error hdec).trans (if_pos (BitVec.eq_of_toNat_eq (by simp; omega)))⟩
      · rw [pulseListed_of_ok hdec, pulseCount] at hlisted
        rw [executePulse_of_ok hdec, List.getElem?_eq_getElem (by omega)]
        exact ⟨_, rfl⟩
  · have hle := hRsc hR
    rcases hn : s.sc.toNat with _ | _ | _ | n
    · exact ⟨_, pulse_interruptRT0 hR (BitVec.eq_of_toNat_eq hn)⟩
    · exact ⟨_, pulse_interruptRT1 hR (BitVec.eq_of_toNat_eq hn)⟩
    · exact ⟨_, pulse_interruptRT2 hR (BitVec.eq_of_toNat_eq hn)⟩
    · omega

theorem microStep_ne_noPulse (h : Inv s) (sc : BitVec 4) : (microStep s).kind ≠ .noPulse sc := by
  obtain ⟨t, ht⟩ := exists_pulse_of_inv h
  rcases microStep_cases s with ⟨t, -, -, -, hm⟩ | ⟨f, -, hm⟩ | ⟨-, -, hm⟩ | ⟨-, -, hnone, -⟩
  case inr.inr.inr =>
    rw [ht] at hnone
    cases hnone
  all_goals
    rw [hm]
    nofun

theorem inv_microStep (h : Inv s) : Inv (microStep s).state := by
  rcases microStep_cases s with ⟨t, hfault, hstop, hp, hm⟩ | ⟨f, -, hm⟩ | ⟨-, -, hm⟩ | ⟨-, -, -, hm⟩ <;> rw [hm]
  case inl => exact inv_pulse h ⟨hfault, hstop⟩ hp
  all_goals exact h

/-- Settles O46: each pulse by where in its cycle it leaves the core. -/
theorem everyMicroStepKeepsTheInvariant : Obligations.EveryMicroStepKeepsTheInvariant :=
  fun _ h => ⟨inv_microStep h, microStep_ne_noPulse h⟩

/-! ### `macroStep` and `step` -/

theorem inv_iterate_microState (h : Inv s) (n : Nat) : Inv (microState^[n] s) :=
  Function.Iterate.rec Inv h (fun _ => inv_microStep) n

theorem inv_macroStep (h : Inv s) : Inv (macroStep s).state := by
  rw [macroStep_eq_iterate]
  exact inv_iterate_microState h _

theorem microSteps_ne_noPulse (fuel : Nat) (h : Inv s) (sc : BitVec 4) : (microSteps fuel s).kind ≠ .noPulse sc := by
  induction fuel generalizing s with
  | zero => nofun
  | succ fuel ih =>
    rcases microSteps_succ_cases fuel s with hm | ⟨-, hkind, -, -⟩
    · rw [hm]
      exact microStep_ne_noPulse h sc
    · rw [hkind]
      exact ih (inv_microStep h)

theorem macroStep_ne_noPulse (h : Inv s) (sc : BitVec 4) : (macroStep s).kind ≠ .noPulse sc :=
  microSteps_ne_noPulse longestCycle h sc

/-- A `macroStep` that answers a next state answers the state it reached. -/
theorem outcome_eq_next {r : StepResult} (h : r.outcome = .next t) : r.state = t := by
  unfold StepResult.outcome at h
  split at h <;> cases h <;> rfl

/-- Settles O45: a step is a `macroStep`, a `macroStep` its micro-steps. -/
theorem everyStepKeepsTheInvariant : Obligations.EveryStepKeepsTheInvariant := by
  intro s t h hstep
  rw [stepIsTheMacroStep s] at hstep
  exact outcome_eq_next hstep ▸ inv_macroStep h

end Sys2Proof.Machine
end


section
/-! PROOFS. What steps and runs answer: no refusal from a state of the invariant, the number of pulses of each cycle,
the end of a run (00_scope.md rule R13, 40_cycle.md rules R123, R126, R127 and R129). -/

namespace Sys2Proof.Machine

variable {s t : State} {i : Instr}

/-! ### A running core -/

theorem running_of_not_cycleDone (h : cycleDone s = false) : Running s := by
  simp only [cycleDone, Bool.or_eq_false_iff, Option.isSome_eq_false_iff, Option.isNone_iff_eq_none] at h
  exact ⟨h.2, h.1.2⟩

/-- A running core performs a pulse or has none; `macroStep` stops before it could meet a stopped core. -/
theorem microSteps_kind_of_running (fuel : Nat) (hrun : Running s) :
    (microSteps fuel s).kind = .stepped ∨ ∃ sc, (microSteps fuel s).kind = .noPulse sc := by
  induction fuel generalizing s with
  | zero => exact .inl rfl
  | succ fuel ih =>
    rcases microSteps_succ_cases fuel s with hm | ⟨hdone, hkind, -, -⟩
    · rw [hm]
      obtain ⟨hfault, hstop⟩ := hrun
      rcases hp : pulse s with _ | t
      · exact .inr ⟨s.sc, by simp [microStep, hfault, hstop, hp]⟩
      · exact .inl (by rw [microStep_stepped hfault hstop hp])
    · rw [hkind]
      exact ih (running_of_not_cycleDone hdone)

theorem step_faulted {f : Fault} (hfault : s.faultReg = some f) : step s = .fault f := by
  rw [stepIsTheMacroStep, macroStep_faulted hfault]
  rfl

theorem step_halted (hfault : s.faultReg = none) (hstop : s.flagS = true) : step s = .next s := by
  rw [stepIsTheMacroStep, macroStep_halted hfault hstop]
  rfl

theorem exists_next_of_inv (h : Inv s) (hfault : s.faultReg = none) : ∃ t, step s = .next t := by
  rcases hstop : s.flagS
  · rw [stepIsTheMacroStep]
    rcases microSteps_kind_of_running longestCycle ⟨hfault, hstop⟩ with hkind | ⟨sc, hkind⟩
    · exact ⟨(macroStep s).state, by rw [StepResult.outcome, macroStep, hkind]⟩
    · exact absurd hkind (macroStep_ne_noPulse h sc)
  · exact ⟨s, step_halted hfault hstop⟩

/-- Settles O47: FAULT alone decides the answer, and neither answer is a refusal. -/
theorem stepsAnswerNoRefusalAndOnlyTheRecordedFault :
    Obligations.StepsAnswerNoRefusalAndOnlyTheRecordedFault := by
  refine fun s h => ⟨exists_next_of_inv h, fun _ => step_faulted, fun r hr => ?_⟩
  rcases hfault : s.faultReg with _ | f
  · obtain ⟨t, ht⟩ := exists_next_of_inv h hfault
    rw [ht] at hr
    cases hr
  · rw [step_faulted hfault] at hr
    cases hr

/-! ### The number of pulses of a cycle -/

/-- Settles O42: the pulses are those of the kind of cycle, counted by the length of the instruction's own list. -/
theorem cyclesTakeTheirNumberOfPulses : Obligations.CyclesTakeTheirNumberOfPulses := by
  intro s hrun hsc
  have hcount {i : Instr} (hR : s.flagR = false) (hdec : decode (memRead s.mem s.pc) = .ok i) :
      (macroStep s).pulses = pulseCount i := by rw [macroStep_instruction hrun hsc hR hdec]
  refine ⟨fun hR => by rw [macroStep_interrupt hrun hsc hR], fun hR i a => ⟨fun h => ?_, fun h => ?_, hcount hR⟩,
    fun hR hop => ?_⟩
  · simp only [List.mem_cons, List.not_mem_nil, or_false] at h
    rcases h with h | h | h | h <;> exact hcount hR h
  · simp only [List.mem_cons, List.not_mem_nil, or_false] at h
    rcases h with h | h <;> exact hcount hR h
  · rcases hdec : decode (memRead s.mem s.pc) with e | i
    · rw [macroStep_undefined hrun hsc hR hdec]
    · rw [hcount hR hdec, pulseCount_of_decode hdec hop]

/-! ### A stopped core -/

theorem run_faulted {f : Fault} (hfault : s.faultReg = some f) (budget : Nat) (bps : List Addr) :
    run budget bps s = ⟨.faulted f, s, 0⟩ := by
  cases budget <;> simp [run, runLoop, hfault]

theorem run_halted (hfault : s.faultReg = none) (hstop : s.flagS = true) (budget : Nat) (bps : List Addr) :
    run budget bps s = ⟨.halted, s, 0⟩ := by
  cases budget <;> simp [run, runLoop, hfault, hstop]

/-- Settles O38: FAULT and S are looked at before any pulse. -/
theorem haltedAndFaultedCoresStayAsTheyAre : Obligations.HaltedAndFaultedCoresStayAsTheyAre := by
  refine ⟨fun s f hfault => ?_, fun s hfault hstop => ?_⟩
  · exact ⟨by simp [microStep, hfault], macroStep_faulted hfault, step_faulted hfault, run_faulted hfault⟩
  · exact ⟨by simp [microStep, hfault, hstop], macroStep_halted hfault hstop, step_halted hfault hstop,
      run_halted hfault hstop⟩

/-! ### The end of a run -/

section
variable (budget : Nat) (bps : List Addr)

/-- The budget is looked at before each `macroStep`, and the longest has 7 pulses. -/
theorem run_pulses_le (s : State) : (run budget bps s).pulses ≤ budget + 6 := by
  have hturn (n : Nat) (s : State) (hn : n < budget) : n + (macroStep s).pulses ≤ budget + 6 := by
    have hle := macroStep_pulses_le s
    omega
  exact runLoop_induction (P := fun n _ r => n ≤ budget + 6 → r.pulses ≤ budget + 6) (fun _ _ _ _ => id)
    (fun _ _ _ => id) (fun _ _ _ _ => id) (fun n s _ hn _ _ => hturn n s hn) (fun n s hn _ _ => hturn n s hn)
    (fun n s _ hn hr _ => hr (hturn n s hn)) budget 0 s (by omega) (by omega)

theorem run_zero_pulses (s : State) : (run 0 bps s).pulses = 0 := by
  rw [run, runLoop]
  split
  · rfl
  · split <;> rfl

/-- What each outcome of a run says of the state it stopped in. -/
structure RunEnd (r : RunResult) : Prop where
  halted : r.outcome = .halted → EndedWell r.state
  faulted : ∀ f, r.outcome = .faulted f → r.state.faultReg = some f
  budgetExhausted : r.outcome = .budgetExhausted → budget ≤ r.pulses ∧ Running r.state
  breakpoint : ∀ a, r.outcome = .breakpoint a →
    r.state.sc = 0#4 ∧ r.state.flagR = false ∧ r.state.pc = a ∧ a ∈ bps

theorem run_end (s : State) : RunEnd budget bps (run budget bps s) := by
  refine runLoop_induction (P := fun _ _ r => RunEnd budget bps r) (fun n s f hfault => ?_) (fun n s hend => ?_)
    (fun n s hrun hn => ?_) (fun n s sc _ _ => ?_) (fun n s _ hbp => ?_) (fun _ _ _ _ => id) budget 0 s (by omega)
  · exact ⟨nofun, fun _ h => by cases h; exact hfault, nofun, nofun⟩
  · exact ⟨fun _ => hend, nofun, nofun, nofun⟩
  · exact ⟨nofun, nofun, fun _ => ⟨hn, hrun⟩, nofun⟩
  · exact ⟨nofun, nofun, nofun, nofun⟩
  · simp only [atBreakpoint, Bool.and_eq_true, beq_iff_eq, Bool.not_eq_true', List.contains_iff_mem] at hbp
    obtain ⟨⟨hsc, hR⟩, hmem⟩ := hbp
    exact ⟨nofun, nofun, nofun, fun _ h => by cases h; exact ⟨hsc, hR, rfl, hmem⟩⟩

theorem run_ne_noPulse (h : Inv s) (sc : BitVec 4) : (run budget bps s).outcome ≠ .noPulse sc := by
  refine runLoop_induction (P := fun _ s r => Inv s → r.outcome ≠ .noPulse sc) (fun _ _ _ _ _ => nofun)
    (fun _ _ _ _ => nofun) (fun _ _ _ _ _ => nofun) (fun n s sc' _ hkind h => ?_) (fun _ _ _ _ _ => nofun)
    (fun n s r _ hr h => hr (inv_macroStep h)) budget 0 s (by omega) h
  exact absurd hkind (macroStep_ne_noPulse h sc')

end

/-- Settles O41: by induction on the turns of the run. -/
theorem runObeysItsBudget : Obligations.RunObeysItsBudget := fun s budget bps =>
  have hend := run_end budget bps s
  ⟨run_pulses_le budget bps s, run_zero_pulses bps s, hend.halted, hend.faulted, hend.budgetExhausted, hend.breakpoint,
    run_ne_noPulse budget bps⟩

end Sys2Proof.Machine
end


section
/-! PROOFS. The transfers of the Execute pulses, and with them the pulses and the whole effect of each memory-reference
instruction (41_memory_reference.md rules R142 to R149). -/

namespace Sys2Proof.Machine

variable (s : State) (i : Bool) (a : Addr)

/-! ### The last pulses, with the check written out -/

theorem andT5_eq : andT5 s = { s with ac := s.ac &&& s.dr, sc := 0#4, flagR := checkedR s } := endCycle_eq _

theorem addT5_eq : addT5 s = { s with
    ac := s.ac + s.dr, e := decide (65536 ≤ s.ac.toNat + s.dr.toNat), sc := 0#4, flagR := checkedR s } := by
  rw [addT5, endCycle_eq, aluAdd_sum, aluAdd_carry]

theorem ldaT5_eq : ldaT5 s = { s with ac := s.dr, sc := 0#4, flagR := checkedR s } := endCycle_eq _

theorem staT4_eq : staT4 s = { s with mem := memWrite s.mem s.ar s.ac, sc := 0#4, flagR := checkedR s } := endCycle_eq _

theorem bunT4_eq : bunT4 s = { s with pc := s.ar, sc := 0#4, flagR := checkedR s } := endCycle_eq _

theorem bsaT4_eq : bsaT4 s = { s with mem := memWrite s.mem s.ar (0#4 ++ s.pc), ar := s.ar + 1#12, sc := 5#4 } := by
  rw [bsaT4, zext16_eq_append]

theorem bsaT5_eq : bsaT5 s = { s with pc := s.ar, sc := 0#4, flagR := checkedR s } := endCycle_eq _

theorem skipPc_isZero (v : Word) (pc : Addr) : skipPc (isZero v) pc = if v = 0#16 then pc + 1#12 else pc := by
  simp only [skipPc_eq, isZero_iff]

theorem iszT6_eq : iszT6 s = { s with
    mem := memWrite s.mem s.ar s.dr, pc := if s.dr = 0#16 then s.pc + 1#12 else s.pc, sc := 0#4,
    flagR := checkedR s } := by
  rw [iszT6, endCycle_eq, skipPc_isZero]

/-! ### The pulses as micro-steps -/

/-- The micro-step at SC = `sc` of the instruction in IR, by the transfers of its pulse there. -/
theorem microStep_pulse {s t : State} {i : Instr} {sc : BitVec 4} {p : State → State} (hrun : Running s)
    (hR : s.flagR = false) (hdec : decode s.ir = .ok i) (hp : (pulsesOf i)[sc.toNat - 3]? = some p) (ht : p s = t)
    (h3 : 3 ≤ sc.toNat) (hsc : s.sc = sc) : microStep s = ⟨.stepped, t, 1⟩ := by
  subst hsc ht
  exact microStep_execute hrun hR hdec h3 hp

/-! ### The whole effect -/

/-- Incrementing gives 0 exactly from the word of all ones. -/
theorem add_one_eq_zero_iff (v : Word) : v + 1#16 = 0#16 ↔ v = 0xFFFF#16 := by
  constructor <;> intro h <;> bv_omega

theorem exec_and : exec (.and i a) s = .next { s with
    flagI := i, ar := effectiveAddress s.mem i a, dr := memRead s.mem (effectiveAddress s.mem i a),
    ac := s.ac &&& memRead s.mem (effectiveAddress s.mem i a), sc := 0#4, flagR := checkedR s } :=
  congrArg Host.Outcome.next (andT5_eq (loadT4 (addressT3 (decodePulse i a s))))

theorem exec_add : exec (.add i a) s = .next { s with
    flagI := i, ar := effectiveAddress s.mem i a, dr := memRead s.mem (effectiveAddress s.mem i a),
    ac := s.ac + memRead s.mem (effectiveAddress s.mem i a),
    e := decide (65536 ≤ s.ac.toNat + (memRead s.mem (effectiveAddress s.mem i a)).toNat),
    sc := 0#4, flagR := checkedR s } :=
  congrArg Host.Outcome.next (addT5_eq (loadT4 (addressT3 (decodePulse i a s))))

theorem exec_lda : exec (.lda i a) s = .next { s with
    flagI := i, ar := effectiveAddress s.mem i a, dr := memRead s.mem (effectiveAddress s.mem i a),
    ac := memRead s.mem (effectiveAddress s.mem i a), sc := 0#4, flagR := checkedR s } :=
  congrArg Host.Outcome.next (ldaT5_eq (loadT4 (addressT3 (decodePulse i a s))))

theorem exec_sta : exec (.sta i a) s = .next { s with
    flagI := i, ar := effectiveAddress s.mem i a, mem := memWrite s.mem (effectiveAddress s.mem i a) s.ac,
    sc := 0#4, flagR := checkedR s } :=
  congrArg Host.Outcome.next (staT4_eq (addressT3 (decodePulse i a s)))

theorem exec_bun : exec (.bun i a) s = .next { s with
    flagI := i, ar := effectiveAddress s.mem i a, pc := effectiveAddress s.mem i a, sc := 0#4, flagR := checkedR s } :=
  congrArg Host.Outcome.next (bunT4_eq (addressT3 (decodePulse i a s)))

theorem exec_bsa : exec (.bsa i a) s = .next { s with
    flagI := i, ar := effectiveAddress s.mem i a + 1#12,
    mem := memWrite s.mem (effectiveAddress s.mem i a) (0#4 ++ s.pc), pc := effectiveAddress s.mem i a + 1#12,
    sc := 0#4, flagR := checkedR s } := by
  rw [← zext16_eq_append]
  exact congrArg Host.Outcome.next (bsaT5_eq (bsaT4 (addressT3 (decodePulse i a s))))

theorem exec_isz : exec (.isz i a) s = .next { s with
    flagI := i, ar := effectiveAddress s.mem i a, dr := memRead s.mem (effectiveAddress s.mem i a) + 1#16,
    mem := memWrite s.mem (effectiveAddress s.mem i a) (memRead s.mem (effectiveAddress s.mem i a) + 1#16),
    pc := if memRead s.mem (effectiveAddress s.mem i a) = 0xFFFF#16 then s.pc + 1#12 else s.pc,
    sc := 0#4, flagR := checkedR s } := by
  simp only [← add_one_eq_zero_iff]
  exact congrArg Host.Outcome.next (iszT6_eq (iszT5 (loadT4 (addressT3 (decodePulse i a s)))))

/-! ### The statements, one per instruction -/

/-- Settles O12: the word, T4 and T5, and all pulses in a row. -/
theorem andConjoinsTheOperandIntoAc : Obligations.AndConjoinsTheOperandIntoAc := by
  refine ⟨memory_word_eq_append 0#3, fun s i a hrun hR hdec => ⟨?_, ?_⟩, fun s i a _ hea => hea ▸ exec_and s i a⟩
  · exact microStep_pulse (p := loadT4) hrun hR hdec rfl rfl (by decide)
  · exact microStep_pulse (p := andT5) hrun hR hdec rfl (andT5_eq s) (by decide)

/-- Settles O13: the word, T4 and T5, and all pulses in a row. -/
theorem addSumsTheOperandIntoAcAndE : Obligations.AddSumsTheOperandIntoAcAndE := by
  refine ⟨memory_word_eq_append 1#3, fun s i a hrun hR hdec => ⟨?_, ?_⟩, fun s i a _ hea => hea ▸ exec_add s i a⟩
  · exact microStep_pulse (p := loadT4) hrun hR hdec rfl rfl (by decide)
  · exact microStep_pulse (p := addT5) hrun hR hdec rfl (addT5_eq s) (by decide)

/-- Settles O14: the word, T4 and T5, and all pulses in a row. -/
theorem ldaLoadsTheOperandIntoAc : Obligations.LdaLoadsTheOperandIntoAc := by
  refine ⟨memory_word_eq_append 2#3, fun s i a hrun hR hdec => ⟨?_, ?_⟩, fun s i a _ hea => hea ▸ exec_lda s i a⟩
  · exact microStep_pulse (p := loadT4) hrun hR hdec rfl rfl (by decide)
  · exact microStep_pulse (p := ldaT5) hrun hR hdec rfl (ldaT5_eq s) (by decide)

/-- Settles O15: the word, T4, both pulses in a row, and the read of the word written. -/
theorem staStoresAcAtTheEffectiveAddress : Obligations.StaStoresAcAtTheEffectiveAddress :=
  ⟨memory_word_eq_append 3#3,
    fun s _ _ hrun hR hdec => microStep_pulse (p := staT4) hrun hR hdec rfl (staT4_eq s) (by decide),
    fun s i a _ hea => hea ▸ exec_sta s i a, fun s a hwf => memRead_memWrite_same hwf a s.ac⟩

/-- Settles O16: the word, T4, and both pulses in a row. -/
theorem bunBranchesToTheEffectiveAddress : Obligations.BunBranchesToTheEffectiveAddress :=
  ⟨memory_word_eq_append 4#3,
    fun s _ _ hrun hR hdec => microStep_pulse (p := bunT4) hrun hR hdec rfl (bunT4_eq s) (by decide),
    fun s i a _ hea => hea ▸ exec_bun s i a⟩

/-- Settles O17: the word, T4 and T5, all pulses in a row, and the read of the word written. -/
theorem bsaSavesTheReturnAddressAndBranches : Obligations.BsaSavesTheReturnAddressAndBranches := by
  refine ⟨memory_word_eq_append 5#3, fun s i a hrun hR hdec => ⟨?_, ?_⟩, fun s i a _ hea => hea ▸ exec_bsa s i a,
    fun s a hwf => memRead_memWrite_same hwf a _⟩
  · exact microStep_pulse (p := bsaT4) hrun hR hdec rfl (bsaT4_eq s) (by decide)
  · exact microStep_pulse (p := bsaT5) hrun hR hdec rfl (bsaT5_eq s) (by decide)

/-- The word of all ones has opcode 7, ISZ opcode 6. -/
theorem encode_isz_ne_ones : encode (.isz i a) ≠ 0xFFFF#16 := by
  intro h
  have hfields := encode_fields (.isz i a)
  rw [h] at hfields
  exact absurd (congrArg (fun fields => fields.2.1) hfields) (by simp [Laws.EncodedFields.table, fieldOp])

/-- Settles O18: the word, T4 to T6, all pulses in a row, the read of the word written, and the two words of rule R149's
corner cases. -/
theorem iszIncrementsMemoryAndSkipsOnZero : Obligations.IszIncrementsMemoryAndSkipsOnZero := by
  refine ⟨memory_word_eq_append 6#3, fun s i a hrun hR hdec => ⟨?_, ?_, ?_⟩, fun s i a _ hea => hea ▸ exec_isz s i a,
    fun s a hwf => memRead_memWrite_same hwf a _, encode_isz_ne_ones, by decide, rfl⟩
  · exact microStep_pulse (p := loadT4) hrun hR hdec rfl rfl (by decide)
  · exact microStep_pulse (p := iszT5) hrun hR hdec rfl rfl (by decide)
  · exact microStep_pulse (p := iszT6) hrun hR hdec rfl (iszT6_eq s) (by decide)

/-- Settles O19: the cut to 12 bits drops whatever stands above them. -/
theorem effectiveAddressIsDirectOrOneLevelIndirect : Obligations.EffectiveAddressIsDirectOrOneLevelIndirect :=
  ⟨fun _ _ => rfl, fun _ _ p high h => (congrArg trunc12 h).trans (trunc12_append high p)⟩

/-- Settles O31: read off the whole effect of each instruction; a write leaves the other words alone. -/
theorem memoryReferenceInstructionFrame : Obligations.MemoryReferenceInstructionFrame := by
  intro ind a
  rw [← List.forall_iff_forall_mem]
  refine ⟨fun s => ⟨_, exec_and s ind a, ?_⟩, fun s => ⟨_, exec_add s ind a, ?_⟩, fun s => ⟨_, exec_lda s ind a, ?_⟩,
    fun s => ⟨_, exec_sta s ind a, ?_⟩, fun s => ⟨_, exec_bun s ind a, ?_⟩, fun s => ⟨_, exec_bsa s ind a, ?_⟩,
    fun s => ⟨_, exec_isz s ind a, ?_⟩⟩
  all_goals simp +contextual [memRead_memWrite_other]

end Sys2Proof.Machine
end


section
/-! PROOFS. The transfers of the T3 pulses of the register-reference and input/output instructions, and with them the
whole effect of each (42_register_reference.md rules R160 to R172, 43_input_output.md rules R180 to R186). -/

namespace Sys2Proof.Machine

variable (s : State)

/-! ### The circulates as numbers (rules R165 and R166) -/

theorem circulateRight_ac (ac : Word) (e : Bool) :
    (circulateRight ac e).1 = BitVec.ofNat 16 (ac.toNat / 2 + 32768 * e.toNat) := by
  rw [← circulateRight_toNat, BitVec.ofNat_toNat, BitVec.setWidth_eq]

theorem circulateLeft_ac (ac : Word) (e : Bool) :
    (circulateLeft ac e).1 = BitVec.ofNat 16 (2 * ac.toNat + e.toNat) := by
  apply BitVec.eq_of_toNat_eq
  rw [circulateLeft_toNat, BitVec.toNat_ofNat]

/-! ### The pulses, with the check written out -/

theorem claT3_eq : claT3 s = { s with ac := 0#16, sc := 0#4, flagR := checkedR s } := endCycle_eq _
theorem cleT3_eq : cleT3 s = { s with e := false, sc := 0#4, flagR := checkedR s } := endCycle_eq _
theorem cmeT3_eq : cmeT3 s = { s with e := !s.e, sc := 0#4, flagR := checkedR s } := endCycle_eq _

theorem cmaT3_eq : cmaT3 s = { s with ac := 0xFFFF#16 - s.ac, sc := 0#4, flagR := checkedR s } := by
  rw [cmaT3, endCycle_eq, show ~~~s.ac = 0xFFFF#16 - s.ac from (BitVec.allOnes_sub_eq_not s.ac).symm]

theorem incT3_eq : incT3 s = { s with
    ac := BitVec.ofNat 16 ((s.ac.toNat + 1) % 65536), sc := 0#4, flagR := checkedR s } := by
  have hinc : s.ac + 1#16 = BitVec.ofNat 16 ((s.ac.toNat + 1) % 65536) := by bv_omega
  rw [incT3, endCycle_eq, hinc]

theorem cirT3_eq : cirT3 s = { s with
    ac := BitVec.ofNat 16 (s.ac.toNat / 2 + 32768 * s.e.toNat), e := s.ac.getLsbD 0, sc := 0#4,
    flagR := checkedR s } := by
  rw [cirT3, endCycle_eq, circulateRight_ac]
  rfl

theorem cilT3_eq : cilT3 s = { s with
    ac := BitVec.ofNat 16 (2 * s.ac.toNat + s.e.toNat), e := s.ac.getLsbD 15, sc := 0#4, flagR := checkedR s } := by
  rw [cilT3, endCycle_eq, circulateLeft_ac]
  rfl

/-- The pulse of a skip instruction: PC and nothing else (rule R124). -/
theorem skipT3_eq {c : Bool} {p : Prop} [Decidable p] (h : c = true ↔ p) :
    endCycle { s with pc := skipPc c s.pc } =
      { s with pc := if p then s.pc + 1#12 else s.pc, sc := 0#4, flagR := checkedR s } := by
  simp only [endCycle_eq, skipPc_eq, h]

theorem hltT3_eq : hltT3 s = { s with flagS := true, sc := 0#4 } := rfl

/-- `AC[7:0]` is AC modulo 2^8. -/
theorem acChar_eq (ac : Word) : acChar ac = BitVec.ofNat 8 ac.toNat := by
  apply BitVec.eq_of_toNat_eq
  simp [acChar]

/-- The check after INP reads FGI = 0. -/
theorem inpT3_eq : inpT3 s = { s with
    ac := s.ac.extractLsb' 8 8 ++ s.inpr, fgi := false, sc := 0#4, flagR := s.flagR || (s.ien && s.fgo) } :=
  endCycle_eq _

/-- The check after OUT reads FGO = 0. -/
theorem outT3_eq : outT3 s = { s with
    outr := BitVec.ofNat 8 s.ac.toNat, fgo := false, outputStream := s.outputStream ++ [BitVec.ofNat 8 s.ac.toNat],
    sc := 0#4, flagR := s.flagR || (s.ien && s.fgi) } := by
  rw [outT3, endCycle_eq, acChar_eq]
  simp [checkedR]

/-- The check after ION reads IEN = 1. -/
theorem ionT3_eq : ionT3 s = { s with ien := true, sc := 0#4, flagR := s.flagR || (s.fgi || s.fgo) } := endCycle_eq _

/-- The check after IOF reads IEN = 0. -/
theorem iofT3_eq : iofT3 s = { s with ien := false, sc := 0#4, flagR := s.flagR } := by
  rw [iofT3, endCycle_eq]
  simp

/-! ### The whole effect: the pulse after Decode's transfers -/

theorem exec_cla : exec .cla s = .next { s with
    flagI := false, ar := 0x800#12, ac := 0#16, sc := 0#4, flagR := checkedR s } :=
  congrArg Host.Outcome.next (claT3_eq (decodePulse false 0x800#12 s))

theorem exec_cle : exec .cle s = .next { s with
    flagI := false, ar := 0x400#12, e := false, sc := 0#4, flagR := checkedR s } :=
  congrArg Host.Outcome.next (cleT3_eq (decodePulse false 0x400#12 s))

theorem exec_cma : exec .cma s = .next { s with
    flagI := false, ar := 0x200#12, ac := 0xFFFF#16 - s.ac, sc := 0#4, flagR := checkedR s } :=
  congrArg Host.Outcome.next (cmaT3_eq (decodePulse false 0x200#12 s))

theorem exec_cme : exec .cme s = .next { s with
    flagI := false, ar := 0x100#12, e := !s.e, sc := 0#4, flagR := checkedR s } :=
  congrArg Host.Outcome.next (cmeT3_eq (decodePulse false 0x100#12 s))

theorem exec_inc : exec .inc s = .next { s with
    flagI := false, ar := 0x020#12, ac := BitVec.ofNat 16 ((s.ac.toNat + 1) % 65536), sc := 0#4,
    flagR := checkedR s } :=
  congrArg Host.Outcome.next (incT3_eq (decodePulse false 0x020#12 s))

theorem exec_cir : exec .cir s = .next { s with
    flagI := false, ar := 0x080#12, ac := BitVec.ofNat 16 (s.ac.toNat / 2 + 32768 * s.e.toNat),
    e := s.ac.getLsbD 0, sc := 0#4, flagR := checkedR s } :=
  congrArg Host.Outcome.next (cirT3_eq (decodePulse false 0x080#12 s))

theorem exec_cil : exec .cil s = .next { s with
    flagI := false, ar := 0x040#12, ac := BitVec.ofNat 16 (2 * s.ac.toNat + s.e.toNat),
    e := s.ac.getLsbD 15, sc := 0#4, flagR := checkedR s } :=
  congrArg Host.Outcome.next (cilT3_eq (decodePulse false 0x040#12 s))

theorem exec_spa : exec .spa s = .next { s with
    flagI := false, ar := 0x010#12, pc := if s.ac.toNat < 0x8000 then s.pc + 1#12 else s.pc, sc := 0#4,
    flagR := checkedR s } :=
  congrArg Host.Outcome.next (skipT3_eq (decodePulse false 0x010#12 s) (by simp [acPositive_eq]))

theorem exec_sna : exec .sna s = .next { s with
    flagI := false, ar := 0x008#12, pc := if 0x8000 ≤ s.ac.toNat then s.pc + 1#12 else s.pc, sc := 0#4,
    flagR := checkedR s } :=
  congrArg Host.Outcome.next (skipT3_eq (decodePulse false 0x008#12 s) (by simp [acNegative_eq]))

theorem exec_sza : exec .sza s = .next { s with
    flagI := false, ar := 0x004#12, pc := if s.ac = 0#16 then s.pc + 1#12 else s.pc, sc := 0#4,
    flagR := checkedR s } :=
  congrArg Host.Outcome.next (skipT3_eq (decodePulse false 0x004#12 s) (isZero_iff s.ac))

theorem exec_sze : exec .sze s = .next { s with
    flagI := false, ar := 0x002#12, pc := if s.e = false then s.pc + 1#12 else s.pc, sc := 0#4,
    flagR := checkedR s } :=
  congrArg Host.Outcome.next (skipT3_eq (decodePulse false 0x002#12 s) (by simp))

theorem exec_hlt : exec .hlt s = .next { s with flagI := false, ar := 0x001#12, flagS := true, sc := 0#4 } :=
  congrArg Host.Outcome.next (hltT3_eq (decodePulse false 0x001#12 s))

theorem exec_inp : exec .inp s = .next { s with
    flagI := true, ar := 0x800#12, ac := s.ac.extractLsb' 8 8 ++ s.inpr, fgi := false, sc := 0#4,
    flagR := s.flagR || (s.ien && s.fgo) } :=
  congrArg Host.Outcome.next (inpT3_eq (decodePulse true 0x800#12 s))

theorem exec_out : exec .out s = .next { s with
    flagI := true, ar := 0x400#12, outr := BitVec.ofNat 8 s.ac.toNat, fgo := false,
    outputStream := s.outputStream ++ [BitVec.ofNat 8 s.ac.toNat], sc := 0#4,
    flagR := s.flagR || (s.ien && s.fgi) } :=
  congrArg Host.Outcome.next (outT3_eq (decodePulse true 0x400#12 s))

theorem exec_ski : exec .ski s = .next { s with
    flagI := true, ar := 0x200#12, pc := if s.fgi = true then s.pc + 1#12 else s.pc, sc := 0#4,
    flagR := checkedR s } :=
  congrArg Host.Outcome.next (skipT3_eq (decodePulse true 0x200#12 s) Iff.rfl)

theorem exec_sko : exec .sko s = .next { s with
    flagI := true, ar := 0x100#12, pc := if s.fgo = true then s.pc + 1#12 else s.pc, sc := 0#4,
    flagR := checkedR s } :=
  congrArg Host.Outcome.next (skipT3_eq (decodePulse true 0x100#12 s) Iff.rfl)

theorem exec_ion : exec .ion s = .next { s with
    flagI := true, ar := 0x080#12, ien := true, sc := 0#4, flagR := s.flagR || (s.fgi || s.fgo) } :=
  congrArg Host.Outcome.next (ionT3_eq (decodePulse true 0x080#12 s))

theorem exec_iof : exec .iof s = .next { s with
    flagI := true, ar := 0x040#12, ien := false, sc := 0#4, flagR := s.flagR } :=
  congrArg Host.Outcome.next (iofT3_eq (decodePulse true 0x040#12 s))

/-! ### The statements -/

/-- Settles O20: Decode on each instruction's word, then its T3. -/
theorem clearsAndComplementsAct : Obligations.ClearsAndComplementsAct :=
  ⟨exec_cla, exec_cle, exec_cma, exec_cme, exec_inc⟩

/-- Settles O21: the two transfers, counted as numbers. -/
theorem circulatesRotateAcThroughE : Obligations.CirculatesRotateAcThroughE := ⟨exec_cir, exec_cil⟩

/-- Settles O24: one pulse shape under four tests. -/
theorem skipsTestAcAndE : Obligations.SkipsTestAcAndE := ⟨exec_spa, exec_sna, exec_sza, exec_sze⟩

/-- Settles O25: T3 of HLT is the one T3 without the check. -/
theorem hltSetsStopWithoutAnInterruptCheck : Obligations.HltSetsStopWithoutAnInterruptCheck := exec_hlt

/-- Settles O26: with FGI cleared the check is left FGO. -/
theorem inpCopiesInprAndClearsFgi : Obligations.InpCopiesInprAndClearsFgi := exec_inp

/-- Settles O27: with FGO cleared the check is left FGI. -/
theorem outSendsTheLowCharacterOfAc : Obligations.OutSendsTheLowCharacterOfAc := exec_out

/-- Settles O28: the skip shape under the two device flags. -/
theorem skiAndSkoTestTheDeviceFlags : Obligations.SkiAndSkoTestTheDeviceFlags := ⟨exec_ski, exec_sko⟩

/-- Settles O29: the check reads the IEN just written. -/
theorem ionAndIofSwitchInterrupts : Obligations.IonAndIofSwitchInterrupts := ⟨exec_ion, exec_iof⟩

/-- Settles O30: read off the whole effect of each instruction. -/
theorem registerAndIoInstructionFrame : Obligations.RegisterAndIoInstructionFrame := by
  unfold Obligations.RegisterAndIoInstructionFrame
  rw [← List.forall_iff_forall_mem]
  refine ⟨fun s => ⟨_, exec_cla s, ?_⟩, fun s => ⟨_, exec_cle s, ?_⟩, fun s => ⟨_, exec_cma s, ?_⟩,
    fun s => ⟨_, exec_cme s, ?_⟩, fun s => ⟨_, exec_cir s, ?_⟩, fun s => ⟨_, exec_cil s, ?_⟩,
    fun s => ⟨_, exec_inc s, ?_⟩, fun s => ⟨_, exec_spa s, ?_⟩, fun s => ⟨_, exec_sna s, ?_⟩,
    fun s => ⟨_, exec_sza s, ?_⟩, fun s => ⟨_, exec_sze s, ?_⟩, fun s => ⟨_, exec_hlt s, ?_⟩,
    fun s => ⟨_, exec_inp s, ?_⟩, fun s => ⟨_, exec_out s, ?_⟩, fun s => ⟨_, exec_ski s, ?_⟩,
    fun s => ⟨_, exec_sko s, ?_⟩, fun s => ⟨_, exec_ion s, ?_⟩, fun s => ⟨_, exec_iof s, ?_⟩⟩
  all_goals simp +contextual

/-! ### Instructions in a row (corner cases of rules R163, R165 and R166) -/

/-- Settles O23: the complement is one short of the negation. -/
theorem complementThenIncrementNegates : Obligations.ComplementThenIncrementNegates := by
  intro s t u ht hu
  obtain rfl : cmaT3 (decodePulse false 0x200#12 s) = t := Host.Outcome.next.inj ht
  obtain rfl : incT3 (decodePulse false 0x020#12 _) = u := Host.Outcome.next.inj hu
  have hneg : ~~~s.ac + 1#16 + s.ac = 0#16 := by rw [← BitVec.neg_eq_not_add, BitVec.add_left_neg]
  exact ⟨hneg, rfl⟩

theorem circulateLeft_circulateRight (ac : Word) (e : Bool) :
    circulateLeft (circulateRight ac e).1 (circulateRight ac e).2 = (ac, e) := by
  have h := ac.isLt
  apply Prod.ext
  · apply BitVec.eq_of_toNat_eq
    rw [circulateLeft_toNat, circulateRight_toNat, circulateRight_carry]
    rcases Nat.mod_two_eq_zero_or_one ac.toNat with hodd | hodd <;> cases e <;> simp [hodd] <;> omega
  · rw [circulateLeft_carry, circulateRight_toNat]
    cases e <;> simp
    omega

theorem circulateRight_circulateLeft (ac : Word) (e : Bool) :
    circulateRight (circulateLeft ac e).1 (circulateLeft ac e).2 = (ac, e) := by
  have h := ac.isLt
  apply Prod.ext
  · apply BitVec.eq_of_toNat_eq
    rw [circulateRight_toNat, circulateLeft_toNat, circulateLeft_carry]
    by_cases hbig : 32768 ≤ ac.toNat <;> cases e <;> simp [hbig] <;> omega
  · rw [circulateRight_carry, circulateLeft_toNat]
    cases e <;> simp

/-- Bit `k` of E above AC, the 17 bits that the circulates rotate. -/
def circleBit (p : Word × Bool) (k : Nat) : Bool := if k < 16 then p.1.getLsbD k else p.2

theorem circulateRight_getLsbD (ac : Word) (e : Bool) {k : Nat} (hk : k < 16) :
    (circulateRight ac e).1.getLsbD k = if k < 15 then ac.getLsbD (k + 1) else e := by
  have h : BitVec.getLsbD (w := 1 + 15) (BitVec.ofBool e ++ ac.extractLsb' 1 15) k =
      if k < 15 then ac.getLsbD (k + 1) else e := by
    rw [BitVec.getLsbD_append, BitVec.getLsbD_extractLsb']
    by_cases h15 : k < 15
    · simp [h15, Nat.add_comm]
    · have hk : k = 15 := by omega
      simp [hk]
  exact h

/-- CIR moves each of the 17 bits one place down the circle. -/
theorem circleBit_circulateRight (p : Word × Bool) {k : Nat} (hk : k < 17) :
    circleBit (circulateRight p.1 p.2) k = circleBit p ((k + 1) % 17) := by
  unfold circleBit
  by_cases h16 : k < 16
  · rw [if_pos h16, circulateRight_getLsbD _ _ h16, Nat.mod_eq_of_lt (by omega)]
    by_cases h15 : k < 15
    · rw [if_pos h15, if_pos (by omega)]
    · rw [if_neg h15, if_neg (by omega)]
  · have hk : k = 16 := by omega
    simp [hk, circulateRight]

theorem circleBit_iterate (n : Nat) (p : Word × Bool) {k : Nat} (hk : k < 17) :
    circleBit ((fun p : Word × Bool => circulateRight p.1 p.2)^[n] p) k = circleBit p ((k + n) % 17) := by
  induction n generalizing p with
  | zero => rw [Function.iterate_zero, id, Nat.add_zero, Nat.mod_eq_of_lt hk]
  | succ n ih =>
    rw [Function.iterate_succ_apply, ih, circleBit_circulateRight _ (Nat.mod_lt _ (by decide)), Nat.mod_add_mod,
      Nat.add_assoc]

theorem circleBit_ext {p q : Word × Bool} (h : ∀ k < 17, circleBit p k = circleBit q k) : p = q := by
  refine Prod.ext (BitVec.eq_of_getLsbD_eq fun k hk => ?_) (h 16 (by decide))
  have hbit := h k (by omega)
  rwa [circleBit, circleBit, if_pos hk, if_pos hk] at hbit

/-- Settles O22: the two rotates undo each other, and seventeen places are once round the circle. -/
theorem seventeenCirculatesRestoreAcAndE : Obligations.SeventeenCirculatesRestoreAcAndE := by
  refine ⟨fun s t u ht hu => ?_, fun s t u ht hu => ?_, fun ac e => circleBit_ext fun k hk => ?_⟩
  · obtain rfl : cirT3 (decodePulse false 0x080#12 s) = t := Host.Outcome.next.inj ht
    obtain rfl : cilT3 (decodePulse false 0x040#12 _) = u := Host.Outcome.next.inj hu
    exact Prod.mk.inj (circulateLeft_circulateRight s.ac s.e)
  · obtain rfl : cilT3 (decodePulse false 0x040#12 s) = t := Host.Outcome.next.inj ht
    obtain rfl : cirT3 (decodePulse false 0x080#12 _) = u := Host.Outcome.next.inj hu
    exact Prod.mk.inj (circulateRight_circulateLeft s.ac s.e)
  · rw [circleBit_iterate 17 _ hk, Nat.add_mod_right, Nat.mod_eq_of_lt hk]

end Sys2Proof.Machine
end


section
/-! PROOFS. Which pulse can write which register, flag and word: one table, a line for each pulse, that names what the
pulse writes; what a line does not name, the pulse leaves as it is (10_state.md rules R21 to R38,
20_memory.md rule R61). -/

namespace Sys2Proof.Machine

variable {s t : State}

/-- From `s` to `t` only the pulse that `s` is at has written, in the "written by" lists of rules R21 to R38 and R61. -/
structure WrittenByPulse (s t : State) : Prop where
  ac : t.ac ≠ s.ac → s.flagR = false ∧ ∃ i, decode s.ir = .ok i ∧
    ((s.sc = 5#4 ∧ ∃ d a, i ∈ [Instr.and d a, .add d a, .lda d a]) ∨
      (s.sc = 3#4 ∧ i ∈ [Instr.cla, .cma, .cir, .cil, .inc, .inp]))
  e : t.e ≠ s.e → s.flagR = false ∧ ∃ i, decode s.ir = .ok i ∧
    ((s.sc = 5#4 ∧ ∃ d a, i = .add d a) ∨ (s.sc = 3#4 ∧ i ∈ [Instr.cle, .cme, .cir, .cil]))
  dr : t.dr ≠ s.dr → s.flagR = false ∧ ∃ i d a, decode s.ir = .ok i ∧
    ((s.sc = 4#4 ∧ i ∈ [Instr.and d a, .add d a, .lda d a, .isz d a]) ∨ (s.sc = 5#4 ∧ i = .isz d a))
  ir : t.ir ≠ s.ir → s.flagR = false ∧ s.sc = 1#4
  tr : t.tr ≠ s.tr → s.flagR = true ∧ s.sc = 0#4
  inpr : t.inpr ≠ s.inpr → s.sc = 0#4 ∧ s.fgi = false ∧ s.inputQueue ≠ []
  outr : t.outr ≠ s.outr → s.flagR = false ∧ s.sc = 3#4 ∧ decode s.ir = .ok .out
  ar : t.ar ≠ s.ar → s.sc = 0#4 ∨ (s.flagR = false ∧ (s.sc = 2#4 ∨
    (s.sc = 3#4 ∧ fieldOp s.ir ≠ 7#3 ∧ s.flagI = true) ∨ (s.sc = 4#4 ∧ ∃ d a, decode s.ir = .ok (.bsa d a))))
  pc : t.pc ≠ s.pc → (s.flagR = true ∧ (s.sc = 1#4 ∨ s.sc = 2#4)) ∨ (s.flagR = false ∧ (s.sc = 1#4 ∨
    ∃ i, decode s.ir = .ok i ∧ ((s.sc = 4#4 ∧ ∃ d a, i = .bun d a) ∨ (s.sc = 5#4 ∧ ∃ d a, i = .bsa d a) ∨
      (s.sc = 6#4 ∧ ∃ d a, i = .isz d a) ∨ (s.sc = 3#4 ∧ i ∈ [Instr.spa, .sna, .sza, .sze, .ski, .sko]))))
  flagI : t.flagI ≠ s.flagI → s.flagR = false ∧ s.sc = 2#4
  flagS : t.flagS ≠ s.flagS → s.flagR = false ∧ s.sc = 3#4 ∧ decode s.ir = .ok .hlt ∧ t.flagS = true
  flagR : t.flagR ≠ s.flagR →
    (t.flagR = true ∧ 3 ≤ s.sc.toNat ∧ t.sc = 0#4 ∧ t.ien = true ∧ (t.fgi || t.fgo) = true ∧
      decode s.ir ≠ .ok .hlt ∧ ∃ i, decode s.ir = .ok i) ∨ (t.flagR = false ∧ s.sc = 2#4)
  ien : t.ien ≠ s.ien →
    (s.flagR = false ∧ s.sc = 3#4 ∧ decode s.ir = .ok .ion ∧ t.ien = true) ∨
    (s.flagR = false ∧ s.sc = 3#4 ∧ decode s.ir = .ok .iof ∧ t.ien = false) ∨
    (s.flagR = true ∧ s.sc = 2#4 ∧ t.ien = false)
  fgi : t.fgi ≠ s.fgi → (t.fgi = true ∧ s.sc = 0#4) ∨
    (t.fgi = false ∧ s.flagR = false ∧ s.sc = 3#4 ∧ decode s.ir = .ok .inp)
  fgo : t.fgo ≠ s.fgo → (t.fgo = true ∧ s.sc = 0#4) ∨
    (t.fgo = false ∧ s.flagR = false ∧ s.sc = 3#4 ∧ decode s.ir = .ok .out)
  faultReg : t.faultReg ≠ s.faultReg → s.flagR = false ∧ s.sc = 3#4 ∧ (∃ e, decode s.ir = .error e) ∧
    t.faultReg = some (.internalDecodeError s.ir)
  memOther : ∀ a, a ≠ s.ar → memRead t.mem a = memRead s.mem a
  mem : t.mem ≠ s.mem →
    (s.flagR = true ∧ s.sc = 1#4) ∨
    (s.flagR = false ∧ s.sc = 4#4 ∧ ∃ d a, decode s.ir = .ok (.sta d a)) ∨
    (s.flagR = false ∧ s.sc = 4#4 ∧ ∃ d a, decode s.ir = .ok (.bsa d a)) ∨
    (s.flagR = false ∧ s.sc = 6#4 ∧ ∃ d a, decode s.ir = .ok (.isz d a))
  outReadyScript : t.outReadyScript ≠ s.outReadyScript → s.sc = 0#4
  outReadyRest : t.outReadyRest = s.outReadyRest

/-- A pulse that writes nothing at all. -/
theorem WrittenByPulse.refl (s : State) : WrittenByPulse s s := by
  constructor
  case memOther => exact fun _ _ => rfl
  case outReadyRest => rfl
  all_goals exact fun h => absurd rfl h

/-! ### The pulses before T3, and those of the interrupt cycle -/

/-- The device update, which comes first at SC = 0 in either cycle. -/
theorem deviceUpdate_written (hsc : s.sc = 0#4) : WrittenByPulse s (deviceUpdate s) :=
  { WrittenByPulse.refl s with
    inpr := fun h => ⟨hsc, takesChar_iff.mp (ite_ne_right_iff.mp h).1⟩
    fgi := fun h => .inl ⟨if_pos (ite_ne_right_iff.mp h).1, hsc⟩
    fgo := fun h => .inl ⟨if_pos (ite_ne_right_iff.mp h).1, hsc⟩
    flagR := fun h => absurd rfl h
    outReadyScript := fun _ => hsc }

theorem fetchT0_written (hsc : s.sc = 0#4) : WrittenByPulse s (fetchT0 (deviceUpdate s)) :=
  { deviceUpdate_written hsc with ar := fun _ => .inl hsc, flagR := fun h => absurd rfl h }

theorem fetchT1_written (hR : s.flagR = false) (hsc : s.sc = 1#4) : WrittenByPulse s (fetchT1 s) :=
  { WrittenByPulse.refl s with
    ir := fun _ => ⟨hR, hsc⟩, pc := fun _ => .inr ⟨hR, .inl hsc⟩, flagR := fun h => absurd rfl h }

theorem decodeT2_written (hR : s.flagR = false) (hsc : s.sc = 2#4) : WrittenByPulse s (decodeT2 s) :=
  { WrittenByPulse.refl s with
    flagI := fun _ => ⟨hR, hsc⟩, ar := fun _ => .inr ⟨hR, .inl hsc⟩, flagR := fun h => absurd rfl h }

theorem raiseDecodeError_written (hR : s.flagR = false) (hsc : s.sc = 3#4) (hdec : ∃ e, decode s.ir = .error e) :
    WrittenByPulse s (raiseDecodeError s) :=
  { WrittenByPulse.refl s with faultReg := fun _ => ⟨hR, hsc, hdec, rfl⟩ }

theorem interruptRT0_written (hR : s.flagR = true) (hsc : s.sc = 0#4) :
    WrittenByPulse s (interruptRT0 (deviceUpdate s)) :=
  { deviceUpdate_written hsc with
    ar := fun _ => .inl hsc, tr := fun _ => ⟨hR, hsc⟩, flagR := fun h => absurd rfl h }

theorem interruptRT1_written (hR : s.flagR = true) (hsc : s.sc = 1#4) : WrittenByPulse s (interruptRT1 s) :=
  { WrittenByPulse.refl s with
    memOther := fun _ h => memRead_memWrite_other _ h, mem := fun _ => .inl ⟨hR, hsc⟩
    pc := fun _ => .inl ⟨hR, .inl hsc⟩, flagR := fun h => absurd rfl h }

theorem interruptRT2_written (hR : s.flagR = true) (hsc : s.sc = 2#4) : WrittenByPulse s (interruptRT2 s) :=
  { WrittenByPulse.refl s with
    pc := fun _ => .inl ⟨hR, .inr hsc⟩, ien := fun _ => .inr (.inr ⟨hR, hsc, rfl⟩)
    flagR := fun _ => .inr ⟨rfl, hsc⟩ }

/-! ### The Execute pulses, a line for each -/

/-- The check at the end of a cycle writes R, and SC, which is on no list. -/
theorem WrittenByPulse.endCycle {u : State} {i : Instr} {sc : BitVec 4} (h : WrittenByPulse s u)
    (hu : u.flagR = s.flagR) (hdec : decode s.ir = .ok i) (hsc : s.sc = sc) (hi : i ≠ .hlt := by nofun)
    (h3 : 3 ≤ sc.toNat := by decide) : WrittenByPulse s (endCycle u) :=
  { h with
    flagR := fun hne => by
      rw [← hu] at hne
      have hreq : interruptRequest u.ien u.fgi u.fgo = true := (ite_ne_right_iff.mp hne).1
      obtain ⟨hien, hflag⟩ := Bool.and_eq_true_iff.mp hreq
      have hdec' : decode s.ir ≠ .ok .hlt := fun hhlt => hi (Except.ok.inj (hdec.symm.trans hhlt))
      exact .inl ⟨if_pos hreq, hsc ▸ h3, rfl, hien, hflag, hdec', i, hdec⟩ }

/-- A pulse's line in the table: what it writes at SC = `sc` as a pulse of the instruction `i`. -/
def PulseLine (i : Instr) (sc : BitVec 4) (p : State → State) : Prop :=
  ∀ s, s.flagR = false → decode s.ir = .ok i → s.sc = sc → WrittenByPulse s (p s)

/-- A line for each pulse of a list, the first of them at SC = `n`. -/
def PulseLines (i : Instr) : Nat → List (State → State) → Prop
  | _, [] => True
  | n, p :: ps => PulseLine i (BitVec.ofNat 4 n) p ∧ PulseLines i (n + 1) ps

theorem PulseLines.line_at {i : Instr} {n k : Nat} {ps : List (State → State)} {p : State → State}
    (h : PulseLines i n ps) (hp : ps[k]? = some p) : PulseLine i (BitVec.ofNat 4 (n + k)) p := by
  induction ps generalizing n k with
  | nil => simp at hp
  | cons q ps ih =>
    obtain ⟨hq, hrest⟩ := h
    cases k with
    | zero =>
      cases hp
      exact hq
    | succ k =>
      rw [show n + (k + 1) = n + 1 + k by omega]
      exact ih hrest hp

/-- T3 of a memory-reference instruction, which is one with more pulses than this; with I = 0 it writes no register. -/
theorem addressT3_line {i : Instr} (hi : 4 < pulseCount i) : PulseLine i 3#4 addressT3 := fun s hR hdec hsc =>
  { WrittenByPulse.refl s with
    ar := fun hne => by
      have hop : fieldOp s.ir ≠ 7#3 := fun hop => absurd (pulseCount_of_decode hdec hop) (by omega)
      exact .inr ⟨hR, .inr (.inl ⟨hsc, hop, (ite_ne_right_iff.mp hne).1⟩)⟩
    flagR := fun h => absurd rfl h }

/-- T4 of the instructions that read an operand. -/
theorem loadT4_line {i : Instr} {d : Bool} {a : Addr} (hi : i ∈ [Instr.and d a, .add d a, .lda d a, .isz d a]) :
    PulseLine i 4#4 loadT4 := fun s hR hdec hsc =>
  { WrittenByPulse.refl s with
    dr := fun _ => ⟨hR, i, d, a, hdec, .inl ⟨hsc, hi⟩⟩, flagR := fun h => absurd rfl h }

/-- T3 of a skip instruction. -/
theorem skipT3_line {i : Instr} (hi : i ∈ [Instr.spa, .sna, .sza, .sze, .ski, .sko]) (c : State → Bool) :
    PulseLine i 3#4 (fun s => endCycle { s with pc := skipPc (c s) s.pc }) := fun s hR hdec hsc =>
  .endCycle { WrittenByPulse.refl s with
    pc := fun _ => .inr ⟨hR, .inr ⟨i, hdec, .inr (.inr (.inr ⟨hsc, hi⟩))⟩⟩ } rfl hdec hsc (by rintro rfl; simp at hi)

/-- T3 of an instruction that writes AC alone. -/
theorem acT3_line {i : Instr} (hi : i ∈ [Instr.cla, .cma, .inc]) (v : State → Word) :
    PulseLine i 3#4 (fun s => endCycle { s with ac := v s }) := fun s hR hdec hsc =>
  .endCycle { WrittenByPulse.refl s with
    ac := fun _ => ⟨hR, i, hdec, .inr ⟨hsc, by simp at hi ⊢; tauto⟩⟩ } rfl hdec hsc (by rintro rfl; simp at hi)

/-- T3 of an instruction that writes E alone. -/
theorem eT3_line {i : Instr} (hi : i ∈ [Instr.cle, .cme]) (v : State → Bool) :
    PulseLine i 3#4 (fun s => endCycle { s with e := v s }) := fun s hR hdec hsc =>
  .endCycle { WrittenByPulse.refl s with
    e := fun _ => ⟨hR, i, hdec, .inr ⟨hsc, by simp at hi ⊢; tauto⟩⟩ } rfl hdec hsc (by rintro rfl; simp at hi)

/-- T3 of an instruction that rotates E and AC. -/
theorem circulateT3_line {i : Instr} (hi : i ∈ [Instr.cir, .cil]) (v : State → Word × Bool) :
    PulseLine i 3#4 (fun s => endCycle { s with ac := (v s).1, e := (v s).2 }) := fun s hR hdec hsc =>
  .endCycle { WrittenByPulse.refl s with
    ac := fun _ => ⟨hR, i, hdec, .inr ⟨hsc, by simp at hi ⊢; tauto⟩⟩
    e := fun _ => ⟨hR, i, hdec, .inr ⟨hsc, by simp at hi ⊢; tauto⟩⟩ } rfl hdec hsc (by rintro rfl; simp at hi)

theorem pulsesOf_lines (i : Instr) : PulseLines i 3 (pulsesOf i) := by
  cases i with
  | and d a =>
    exact ⟨addressT3_line (Nat.le_of_ble_eq_true rfl), loadT4_line (d := d) (a := a) (by simp), fun s hR hdec hsc =>
      .endCycle { WrittenByPulse.refl s with ac := fun _ => ⟨hR, _, hdec, .inl ⟨hsc, d, a, by simp⟩⟩ } rfl hdec hsc,
      trivial⟩
  | add d a =>
    exact ⟨addressT3_line (Nat.le_of_ble_eq_true rfl), loadT4_line (d := d) (a := a) (by simp), fun s hR hdec hsc =>
      .endCycle { WrittenByPulse.refl s with
        ac := fun _ => ⟨hR, _, hdec, .inl ⟨hsc, d, a, by simp⟩⟩
        e := fun _ => ⟨hR, _, hdec, .inl ⟨hsc, d, a, rfl⟩⟩ } rfl hdec hsc, trivial⟩
  | lda d a =>
    exact ⟨addressT3_line (Nat.le_of_ble_eq_true rfl), loadT4_line (d := d) (a := a) (by simp), fun s hR hdec hsc =>
      .endCycle { WrittenByPulse.refl s with ac := fun _ => ⟨hR, _, hdec, .inl ⟨hsc, d, a, by simp⟩⟩ } rfl hdec hsc,
      trivial⟩
  | sta d a =>
    exact ⟨addressT3_line (Nat.le_of_ble_eq_true rfl), fun s hR hdec hsc =>
      .endCycle { WrittenByPulse.refl s with
        memOther := fun _ h => memRead_memWrite_other _ h
        mem := fun _ => .inr (.inl ⟨hR, hsc, d, a, hdec⟩) } rfl hdec hsc, trivial⟩
  | bun d a =>
    exact ⟨addressT3_line (Nat.le_of_ble_eq_true rfl), fun s hR hdec hsc =>
      .endCycle { WrittenByPulse.refl s with
        pc := fun _ => .inr ⟨hR, .inr ⟨_, hdec, .inl ⟨hsc, d, a, rfl⟩⟩⟩ } rfl hdec hsc, trivial⟩
  | bsa d a =>
    exact ⟨addressT3_line (Nat.le_of_ble_eq_true rfl), fun s hR hdec hsc =>
      { WrittenByPulse.refl s with
        memOther := fun _ h => memRead_memWrite_other _ h
        mem := fun _ => .inr (.inr (.inl ⟨hR, hsc, d, a, hdec⟩))
        ar := fun _ => .inr ⟨hR, .inr (.inr ⟨hsc, d, a, hdec⟩)⟩
        flagR := fun h => absurd rfl h }, fun s hR hdec hsc =>
      .endCycle { WrittenByPulse.refl s with
        pc := fun _ => .inr ⟨hR, .inr ⟨_, hdec, .inr (.inl ⟨hsc, d, a, rfl⟩)⟩⟩ } rfl hdec hsc, trivial⟩
  | isz d a =>
    exact ⟨addressT3_line (Nat.le_of_ble_eq_true rfl), loadT4_line (d := d) (a := a) (by simp), fun s hR hdec hsc =>
      { WrittenByPulse.refl s with
        dr := fun _ => ⟨hR, _, d, a, hdec, .inr ⟨hsc, rfl⟩⟩
        flagR := fun h => absurd rfl h }, fun s hR hdec hsc =>
      .endCycle { WrittenByPulse.refl s with
        memOther := fun _ h => memRead_memWrite_other _ h
        mem := fun _ => .inr (.inr (.inr ⟨hR, hsc, d, a, hdec⟩))
        pc := fun _ => .inr ⟨hR, .inr ⟨_, hdec, .inr (.inr (.inl ⟨hsc, d, a, rfl⟩))⟩⟩ } rfl hdec hsc, trivial⟩
  | cla => exact ⟨acT3_line (by simp) _, trivial⟩
  | cma => exact ⟨acT3_line (by simp) _, trivial⟩
  | inc => exact ⟨acT3_line (by simp) _, trivial⟩
  | cle => exact ⟨eT3_line (by simp) _, trivial⟩
  | cme => exact ⟨eT3_line (by simp) _, trivial⟩
  | cir => exact ⟨circulateT3_line (by simp) fun s => circulateRight s.ac s.e, trivial⟩
  | cil => exact ⟨circulateT3_line (by simp) fun s => circulateLeft s.ac s.e, trivial⟩
  | spa => exact ⟨skipT3_line (by simp) fun s => acPositive s.ac, trivial⟩
  | sna => exact ⟨skipT3_line (by simp) fun s => acNegative s.ac, trivial⟩
  | sza => exact ⟨skipT3_line (by simp) fun s => isZero s.ac, trivial⟩
  | sze => exact ⟨skipT3_line (by simp) fun s => !s.e, trivial⟩
  | ski => exact ⟨skipT3_line (by simp) fun s => s.fgi, trivial⟩
  | sko => exact ⟨skipT3_line (by simp) fun s => s.fgo, trivial⟩
  | hlt =>
    exact ⟨fun s hR hdec hsc => { WrittenByPulse.refl s with
      flagS := fun _ => ⟨hR, hsc, hdec, rfl⟩, flagR := fun h => absurd rfl h }, trivial⟩
  | inp =>
    exact ⟨fun s hR hdec hsc => .endCycle { WrittenByPulse.refl s with
      ac := fun _ => ⟨hR, _, hdec, .inr ⟨hsc, by simp⟩⟩
      fgi := fun _ => .inr ⟨rfl, hR, hsc, hdec⟩, flagR := fun h => absurd rfl h } rfl hdec hsc, trivial⟩
  | out =>
    exact ⟨fun s hR hdec hsc => .endCycle { WrittenByPulse.refl s with
      outr := fun _ => ⟨hR, hsc, hdec⟩
      fgo := fun _ => .inr ⟨rfl, hR, hsc, hdec⟩, flagR := fun h => absurd rfl h } rfl hdec hsc, trivial⟩
  | ion =>
    exact ⟨fun s hR hdec hsc => .endCycle { WrittenByPulse.refl s with
      ien := fun _ => .inl ⟨hR, hsc, hdec, rfl⟩, flagR := fun h => absurd rfl h } rfl hdec hsc, trivial⟩
  | iof =>
    exact ⟨fun s hR hdec hsc => .endCycle { WrittenByPulse.refl s with
      ien := fun _ => .inr (.inl ⟨hR, hsc, hdec, rfl⟩), flagR := fun h => absurd rfl h } rfl hdec hsc, trivial⟩

/-! ### Every micro-step -/

theorem pulse_written (hp : pulse s = some t) : WrittenByPulse s t := by
  rcases pulse_cases hp with ⟨hR, hsc, rfl⟩ | ⟨hR, hsc, rfl⟩ | ⟨hR, hsc, rfl⟩ | ⟨-, hsc, rfl⟩ | ⟨hR, hsc, rfl⟩ |
    ⟨hR, hsc, rfl⟩ | ⟨hR, hsc, hdec, rfl⟩ | ⟨hR, hsc, i, p, hdec, hpi, rfl⟩
  · exact interruptRT0_written hR (BitVec.eq_of_toNat_eq hsc)
  · exact interruptRT1_written hR (BitVec.eq_of_toNat_eq hsc)
  · exact interruptRT2_written hR (BitVec.eq_of_toNat_eq hsc)
  · exact fetchT0_written (BitVec.eq_of_toNat_eq hsc)
  · exact fetchT1_written hR (BitVec.eq_of_toNat_eq hsc)
  · exact decodeT2_written hR (BitVec.eq_of_toNat_eq hsc)
  · exact raiseDecodeError_written hR (BitVec.eq_of_toNat_eq hsc) hdec
  · refine (pulsesOf_lines i).line_at hpi s hR hdec ?_
    rw [Nat.add_sub_cancel' hsc, BitVec.ofNat_toNat, BitVec.setWidth_eq]

theorem microStep_written (s : State) : WrittenByPulse s (microStep s).state := by
  rcases microStep_cases s with ⟨t, -, -, hp, hm⟩ | ⟨f, -, hm⟩ | ⟨-, -, hm⟩ | ⟨-, -, -, hm⟩ <;> rw [hm]
  case inl => exact pulse_written hp
  all_goals exact .refl s

/-- Settles O49: the table's columns for the registers. -/
theorem registersHaveOnlyTheirWriters : Obligations.RegistersHaveOnlyTheirWriters := by
  rintro s _ rfl
  have h := microStep_written s
  exact ⟨h.ac, h.e, h.dr, h.ir, h.tr, h.inpr, h.outr, h.ar, h.pc⟩

/-- Settles O50: the table's columns for the flags. -/
theorem flagsHaveOnlyTheirWriters : Obligations.FlagsHaveOnlyTheirWriters := by
  rintro s _ rfl
  have h := microStep_written s
  exact ⟨h.flagI, h.flagS, h.flagR, h.ien, h.fgi, h.fgo, h.faultReg⟩

/-- Settles O51: the table's columns for memory. -/
theorem memoryIsWrittenOnlyAtArByItsFourPulses : Obligations.MemoryIsWrittenOnlyAtArByItsFourPulses := by
  rintro s _ rfl
  exact ⟨(microStep_written s).memOther, (microStep_written s).mem⟩

/-! ### The output device (rule R188) -/

/-- At a cycle start the device update decides FGO and uses up one value of `out_ready`. -/
theorem microStep_cycleStart_output (hrun : Running s) (hsc : s.sc = 0#4) :
    ((microStep s).state.fgo, (microStep s).state.outReadyScript, (microStep s).state.outReadyRest) =
      (s.fgo || outReady s, s.outReadyScript.tail, s.outReadyRest) := by
  have hfgo : (deviceUpdate s).fgo = (s.fgo || outReady s) := by
    rw [deviceUpdate_fgo]
    cases s.fgo <;> simp
  rw [← hfgo]
  obtain ⟨hfault, hstop⟩ := hrun
  rcases hR : s.flagR
  · rw [microStep_stepped hfault hstop (pulse_fetchT0 hR hsc)]
    rfl
  · rw [microStep_stepped hfault hstop (pulse_interruptRT0 hR hsc)]
    rfl

theorem microStep_of_not_running (h : ¬Running s) : (microStep s).state = s := by
  rcases microStep_cases s with ⟨t, hfault, hstop, -, -⟩ | ⟨f, -, hm⟩ | ⟨-, -, hm⟩ | ⟨-, -, -, hm⟩
  case inl => exact absurd ⟨hfault, hstop⟩ h
  all_goals rw [hm]

/-- Settles O11: the device update at a cycle start; elsewhere the table's lines for FGO and `out_ready`. -/
theorem cycleStartUpdatesTheOutputDevice : Obligations.CycleStartUpdatesTheOutputDevice := by
  refine ⟨fun s b bs hrun hsc hscript => ?_, fun s hrun hsc hscript => ?_, fun s h => ?_⟩
  · have hout := microStep_cycleStart_output hrun hsc
    simpa [outReady, hscript] using hout
  · have hout := microStep_cycleStart_output hrun hsc
    simpa [outReady, hscript] using hout
  · rcases h with hsc | hrun
    · have hw := microStep_written s
      refine ⟨fun hfgo => ?_, ?_, hw.outReadyRest⟩
      · by_contra hno
        rcases hw.fgo (by rw [hfgo]; exact fun h => hno h.symm) with ⟨-, h0⟩ | ⟨hclear, -⟩
        · exact hsc h0
        · rw [hfgo] at hclear
          cases hclear
      · by_contra hno
        exact hsc (hw.outReadyScript hno)
    · rw [microStep_of_not_running hrun]
      exact ⟨id, rfl, rfl⟩

end Sys2Proof.Machine
end


section
/-! PROOFS. The pulses of Fetch, Decode and IndirectFetch, of the fault and of the interrupt cycle; the one pulse of an
opcode-7 instruction; the source state (40_cycle.md rules R111 to R119, 60_exceptions.md rules R200
and R207 to R211). -/

namespace Sys2Proof.Machine

variable {s : State}

/-! ### Fetch, Decode, IndirectFetch -/

/-- The PC after Fetch, modulo 4096. -/
theorem pc_add_one_eq (pc : Addr) : pc + 1#12 = BitVec.ofNat 12 ((pc.toNat + 1) % 4096) := by bv_omega

/-- T3 of a word that is no opcode-7 word, whatever I holds. -/
theorem microStep_addressT3 (hrun : Running s) (hR : s.flagR = false) (hsc : s.sc = 3#4) (hop : fieldOp s.ir ≠ 7#3) :
    microStep s = ⟨.stepped, addressT3 s, 1⟩ := by
  obtain ⟨i, hdec, -⟩ := decode_memory_word hop
  exact microStep_pulse (sc := 3#4) hrun hR hdec (pulsesOf_head_of_decode hdec hop) rfl (by decide) hsc

/-- Settles O8: T0 to T2 are the pulses at their SC, T3 is the address pulse with I = 1. -/
theorem fetchDecodeAndIndirectPulses : Obligations.FetchDecodeAndIndirectPulses := by
  refine fun s hrun hR => ⟨fun hsc => ?_, fun hsc => ?_, fun hsc h => ?_, fun hsc => ?_, fun hsc hop hI => ?_⟩
  · exact microStep_stepped hrun.1 hrun.2 (pulse_fetchT0 hR hsc)
  · rw [← pc_add_one_eq]
    exact microStep_stepped hrun.1 hrun.2 (pulse_fetchT1 hR hsc)
  · obtain ⟨-, -, ⟨-, -, -, hfetch, -⟩, -, -⟩ := h
    exact hfetch hsc hR
  · exact microStep_stepped hrun.1 hrun.2 (pulse_decodeT2 hR hsc)
  · rw [microStep_addressT3 hrun hR hsc hop, addressT3, hI, effectiveAddress, if_pos rfl, trunc12_eq_extract]

/-- Settles O9: T3 is the address pulse, which with I = 0 keeps the address. -/
theorem directReferenceSpendsAnIdlePulse : Obligations.DirectReferenceSpendsAnIdlePulse := by
  intro s hrun hR hsc hop hI
  rw [microStep_addressT3 hrun hR hsc hop, addressT3, hI]
  rfl

/-! ### The one pulse of an opcode-7 instruction -/

/-- With I, AR and SC as Decode left them, Decode's transfers change nothing. -/
theorem decodePulse_self {d : Bool} {a : Addr} (hI : s.flagI = d) (har : s.ar = a) (hsc : s.sc = 3#4) :
    decodePulse d a s = s := by
  subst hI har
  rw [decodePulse, ← hsc]

/-- Settles O37: the list of an opcode-7 instruction is its T3, which ends the cycle. -/
theorem registerAndIoInstructionsExecuteInOnePulse : Obligations.RegisterAndIoInstructionsExecuteInOnePulse := by
  intro s i hrun hR hsc hop hdec hI har
  have hlen : (pulsesOf i).length = 1 := by
    have hcount := pulseCount_of_decode hdec hop
    rw [pulseCount] at hcount
    omega
  obtain ⟨p, hp⟩ := List.length_eq_one_iff.mp hlen
  have hend : EndsCycle s (p s) := by
    have hseq := pulsesOf_sequenced i
    rw [hp] at hseq
    exact hseq s
  have hm : microStep s = ⟨.stepped, p s, 1⟩ :=
    microStep_pulse hrun hR hdec (by rw [hp]; rfl) rfl (by decide) hsc
  have hexec : exec i s = .next (p s) := by
    rw [exec_eq_runPulses, decode_ok_fields hdec, decodePulse_self hI har hsc, hp]
    rfl
  rw [hm]
  exact ⟨rfl, rfl, hexec, hend.sc⟩

/-! ### A whole cycle -/

theorem takeInterrupt_eq (s : State) : takeInterrupt s = { s with
    mem := memWrite s.mem 0#12 (0#4 ++ s.pc), ar := 0#12, tr := 0#4 ++ s.pc, pc := 1#12, ien := false,
    flagR := false, sc := 0#4 } := by
  rw [← zext16_eq_append]
  rfl

section
variable (hrun : Running s) (hsc : AtBoundary s)
include hrun hsc

theorem step_instruction {i : Instr} (hR : s.flagR = false) (hdec : decode (memRead s.mem s.pc) = .ok i) :
    step s = exec i (fetchWord s) := by
  rw [stepIsTheMacroStep, macroStep_instruction hrun hsc hR hdec, exec_eq_runPulses,
    decodeT2_of_decode (s := fetchWord s) hdec]
  rfl

theorem step_undefined {e : DecodeError} (hR : s.flagR = false) (hdec : decode (memRead s.mem s.pc) = .error e) :
    step s = .next (raiseDecodeError (decodeT2 (fetchWord s))) := by
  rw [stepIsTheMacroStep, macroStep_undefined hrun hsc hR hdec]
  rfl

theorem step_interrupt (hR : s.flagR = true) : step s = .next { deviceUpdate s with
    mem := memWrite s.mem 0#12 (0#4 ++ s.pc), ar := 0#12, tr := 0#4 ++ s.pc, pc := 1#12, ien := false,
    flagR := false, sc := 0#4 } := by
  rw [stepIsTheMacroStep, macroStep_interrupt hrun hsc hR]
  exact congrArg Host.Outcome.next (takeInterrupt_eq (deviceUpdate s))

end

/-- Settles O32: the fetched state is the one that T0 and T1 leave. -/
theorem stepRunsTheDecodedInstruction : Obligations.StepRunsTheDecodedInstruction :=
  fun _ _ hrun hsc hR hdec _ => step_instruction hrun hsc hR hdec

/-- Settles O33: the faulting pulse, and T0 to T3 of the cycle that ends in it. -/
theorem undefinedWordRecordsTheFault : Obligations.UndefinedWordRecordsTheFault := by
  refine ⟨fun s e hrun hR hsc hdec => microStep_undefined hrun hR hsc hdec, fun s w e hrun hsc hR hw hdec => ?_⟩
  subst hw
  exact step_undefined hrun hsc hR hdec

/-! ### The interrupt cycle -/

/-- Settles O34: RT0 to RT2, all three in a row, and the word saved. -/
theorem interruptCycleSavesPcAndVectorsToOne : Obligations.InterruptCycleSavesPcAndVectorsToOne := by
  refine ⟨fun s hrun hR => ⟨fun hsc => ?_, fun hsc => ?_, fun hsc => ?_⟩, fun s hrun hsc => step_interrupt hrun hsc,
    fun s hwf => memRead_memWrite_same hwf _ _, fun s a ha => memRead_memWrite_other _ ha⟩
  · rw [← zext16_eq_append]
    exact microStep_stepped hrun.1 hrun.2 (pulse_interruptRT0 hR hsc)
  · exact microStep_stepped hrun.1 hrun.2 (pulse_interruptRT1 hR hsc)
  · exact microStep_stepped hrun.1 hrun.2 (pulse_interruptRT2 hR hsc)

/-- Settles O35: the effective address of `BUN 0 I` is what the interrupt cycle saved in word 0. -/
theorem bunZeroIndirectReturnsFromTheInterrupt : Obligations.BunZeroIndirectReturnsFromTheInterrupt := by
  refine ⟨by decide, fun s hrun hsc hR hwf => ⟨_, step_interrupt hrun hsc hR, fun u hu =>
    ⟨_, exec_bun u true 0#12, ?_⟩⟩⟩
  have hsaved : memRead u.mem 0#12 = 0#4 ++ s.pc := hu.trans (memRead_memWrite_same hwf _ _)
  exact (congrArg trunc12 hsaved).trans (trunc12_append 0#4 s.pc)

/-- Settles O36: ION's own check sets R, and the next cycle is the interrupt cycle that R asks for. -/
theorem interruptIsTakenRightAfterIon : Obligations.InterruptIsTakenRightAfterIon := by
  intro s hrun hsc hR hwf hdec
  refine ⟨_, (step_instruction hrun hsc hR hdec).trans (exec_ion (fetchWord s)), rfl, ?_, fun hflag => ?_⟩
  · exact (congrArg (· || _) hR).trans (Bool.false_or _)
  · refine ⟨_, step_interrupt hrun rfl ?_, rfl, rfl, rfl, memRead_memWrite_same hwf _ _⟩
    exact Bool.or_eq_true_iff.mpr (.inr hflag)

/-! ### The source state (rule R111) -/

theorem phase_faulted (h : s.faultReg ≠ none) : phase s = .faulted := by
  simp [phase, Option.isSome_iff_ne_none.mpr h]

theorem phase_halted (h : EndedWell s) : phase s = .halted := by
  simp [phase, h]

theorem phase_interrupt (hrun : Running s) (hR : s.flagR = true) : phase s = .interrupt := by
  simp [phase, hrun, hR]

/-- In an instruction cycle SC, and at T3 the opcode, decide. -/
theorem phase_instruction (hrun : Running s) (hR : s.flagR = false) :
    (s.sc.toNat ≤ 1 ∧ phase s = .fetch) ∨ (s.sc.toNat = 2 ∧ phase s = .decode) ∨
    ((s.sc.toNat = 3 ∧ fieldOp s.ir ≠ 7#3) ∧ phase s = .indirectFetch) ∨
    (((s.sc.toNat = 3 ∧ fieldOp s.ir = 7#3) ∨ 4 ≤ s.sc.toNat) ∧ phase s = .execute) := by
  obtain ⟨hfault, hstop⟩ := hrun
  simp only [phase, hfault, hstop, hR, Option.isSome_none, Bool.false_eq_true, if_false]
  split
  · rename_i h
    rcases Bool.or_eq_true_iff.mp h with h | h <;> simp [of_decide_eq_true h]
  · rename_i h01
    rw [Bool.or_eq_true_iff, decide_eq_true_eq, decide_eq_true_eq, not_or] at h01
    obtain ⟨h0, h1⟩ := h01
    split
    · rename_i h2
      simp [h2]
    · rename_i h2
      split
      · rename_i h
        rw [Bool.and_eq_true_iff, decide_eq_true_eq, decide_eq_true_eq] at h
        simp [h]
      · rename_i h
        rw [Bool.and_eq_true_iff, decide_eq_true_eq, decide_eq_true_eq, not_and, not_not] at h
        refine .inr (.inr (.inr ⟨?_, rfl⟩))
        by_cases h3 : s.sc = 3#4
        · exact .inl ⟨by rw [h3]; rfl, h h3⟩
        · exact .inr (by bv_omega)

/-- Settles O43: the tests of rule R111 are made in this order, so the first that holds names the state. -/
theorem phaseNamesTheSourceState : Obligations.PhaseNamesTheSourceState := by
  intro s
  by_cases hfault : s.faultReg = none
  case neg =>
    have hph := phase_faulted hfault
    simp [hph, hfault]
  rcases hstop : s.flagS
  case true =>
    have hph := phase_halted ⟨hstop, hfault⟩
    simp [hph, EndedWell, hfault, hstop]
  rcases hR : s.flagR
  case true =>
    have hph := phase_interrupt ⟨hfault, hstop⟩ hR
    simp [hph, hfault, hstop]
  have hrest : phase s ≠ .faulted ∧ phase s ≠ .halted ∧ phase s ≠ .interrupt := by
    rcases phase_instruction ⟨hfault, hstop⟩ hR with ⟨-, h⟩ | ⟨-, h⟩ | ⟨-, h⟩ | ⟨-, h⟩ <;> simp [h]
  refine ⟨by simp [hrest, hfault], by simp [hrest, EndedWell, hstop], fun _ => by simp [hrest], fun hrun _ => ?_⟩
  rcases phase_instruction hrun hR with ⟨hsc, h⟩ | ⟨hsc, h⟩ | ⟨hsc, h⟩ | ⟨hsc, h⟩ <;> rw [h] <;> grind

end Sys2Proof.Machine
end


section
/-! PROOFS. What the host does between micro-steps: load, push a character, supply `out_ready`, read the snapshot
(43_input_output.md rule R190, 70_reset_and_hazards.md rules R230 to R232, 10_state.md rule R44). -/

namespace Sys2Proof.Machine

variable {s t : State} {pairs : List (Nat × Nat)} {entry : Nat}

/-! ### The memory a list of pairs loads (rule R231) -/

/-- Every address and every word of the pairs is in range. -/
def PairsInRange (pairs : List (Nat × Nat)) : Prop := ∀ p ∈ pairs, p.1 < Config.memWords ∧ p.2 < Config.wordValues

theorem loadPairs_concat (pairs : List (Nat × Nat)) (p : Nat × Nat) (m : Memory) :
    loadPairs (pairs ++ [p]) m = Memory.write (loadPairs pairs m) p.1 (BitVec.ofNat 16 p.2) := by
  simp [loadPairs]

theorem loadPairs_wf (h : PairsInRange pairs) : Memory.wf (loadPairs pairs []) = true := by
  induction pairs using List.reverseRecOn with
  | nil => rfl
  | append_singleton pairs p ih =>
    rw [loadPairs_concat]
    exact memory_wfFrom_write (ih fun q hq => h q (List.mem_append_left _ hq)) (Nat.zero_le _) (h p (by simp)).1 _

/-- A word reads as the last pair's for its address, or 0. -/
theorem loadPairs_read (h : PairsInRange pairs) (a : Nat) :
    (Memory.read (loadPairs pairs []) a).toNat = ((pairs.reverse.find? (fun p => p.1 == a)).map Prod.snd).getD 0 := by
  induction pairs using List.reverseRecOn with
  | nil => rfl
  | append_singleton pairs p ih =>
    have hpairs : PairsInRange pairs := fun q hq => h q (List.mem_append_left _ hq)
    obtain ⟨-, hword⟩ := h p (by simp)
    rw [loadPairs_concat, List.reverse_concat, List.find?_cons]
    by_cases ha : p.1 = a
    · subst ha
      rw [memory_read_write_same (loadPairs_wf hpairs)]
      simpa [Config.wordValues] using hword
    · rw [memory_read_write_other _ (Ne.symm ha), beq_false_of_ne ha]
      exact ih hpairs

/-! ### resetLoad -/

/-- The state a load in range gives (rule R230). -/
def loadedState (pairs : List (Nat × Nat)) (entry : Nat) (s : State) : State :=
  { State.reset with
    mem := loadPairs pairs []
    pc := BitVec.ofNat 12 entry
    outReadyScript := s.outReadyScript
    outReadyRest := s.outReadyRest }

theorem resetLoad_of_inRange (hpairs : PairsInRange pairs) (hentry : entry < Config.memWords) (s : State) :
    resetLoad pairs entry s = .ok (loadedState pairs entry s) := by
  have haddr : pairs.any (fun p => decide (Config.memWords ≤ p.1)) = false := by
    simpa using fun a b hab => (hpairs (a, b) hab).1
  have hword : pairs.any (fun p => decide (Config.wordValues ≤ p.2)) = false := by
    simpa using fun a b hab => (hpairs (a, b) hab).2
  simp [resetLoad, haddr, hword, hentry, loadedState]

theorem resetLoad_of_not_inRange (h : ¬(PairsInRange pairs ∧ entry < Config.memWords)) (s : State) :
    ∃ r, resetLoad pairs entry s = .error r := by
  unfold resetLoad
  split
  · exact ⟨_, rfl⟩
  · rename_i haddr
    split
    · exact ⟨_, rfl⟩
    · rename_i hword
      split
      · exact ⟨_, rfl⟩
      · rename_i hentry
        refine absurd ⟨fun p hp => ⟨?_, ?_⟩, Nat.lt_of_not_le hentry⟩ h
        · exact Nat.lt_of_not_le fun hle => haddr (List.any_eq_true.mpr ⟨p, hp, decide_eq_true hle⟩)
        · exact Nat.lt_of_not_le fun hle => hword (List.any_eq_true.mpr ⟨p, hp, decide_eq_true hle⟩)

theorem resetLoad_ok (h : resetLoad pairs entry s = .ok t) : PairsInRange pairs ∧ t = loadedState pairs entry s := by
  by_cases hrange : PairsInRange pairs ∧ entry < Config.memWords
  · obtain ⟨hpairs, hentry⟩ := hrange
    rw [resetLoad_of_inRange hpairs hentry] at h
    cases h
    exact ⟨hpairs, rfl⟩
  · obtain ⟨r, hr⟩ := resetLoad_of_not_inRange hrange s
    rw [hr] at h
    cases h

/-- Settles O55: the loaded state's fields, and the induction on the pairs for its memory. -/
theorem resetLoadClearsThenLoadsInOrder : Obligations.ResetLoadClearsThenLoadsInOrder := by
  intro s pairs entry hpairs hentry
  exact ⟨_, resetLoad_of_inRange hpairs hentry s, rfl, rfl, rfl, rfl, rfl, rfl, rfl, Nat.mod_eq_of_lt hentry, rfl,
    fun a => loadPairs_read hpairs a.toNat⟩

/-- Settles O56: any value out of range fails one of the three checks. -/
theorem resetLoadRefusesValuesOutOfRange : Obligations.ResetLoadRefusesValuesOutOfRange := by
  intro s pairs entry h
  refine resetLoad_of_not_inRange (fun ⟨hpairs, hentry⟩ => ?_) s
  rcases h with ⟨p, hp, hbad⟩ | hbad
  · obtain ⟨haddr, hword⟩ := hpairs p hp
    exact hbad.elim haddr.not_ge hword.not_ge
  · exact hentry.not_ge hbad

/-- Settles O57: the empty load is in range and loads nothing. -/
theorem createdCoreIsTheEmptyLoadAtZero : Obligations.CreatedCoreIsTheEmptyLoadAtZero :=
  ⟨fun s => resetLoad_of_inRange (pairs := []) nofun (by decide) (supplyOutReady [] true s), fun _ => rfl, rfl, rfl⟩

/-! ### pushInput -/

theorem pushInput_of_lt {c : Nat} (hc : c < 256) (s : State) :
    pushInput c s = .ok { s with inputQueue := s.inputQueue ++ [BitVec.ofNat 8 c] } :=
  if_neg (Nat.not_le_of_lt hc)

theorem pushInput_of_ge {c : Nat} (hc : 256 ≤ c) (s : State) : pushInput c s = .error .charOutOfRange := if_pos hc

theorem pushInput_ok {c : Nat} (h : pushInput c s = .ok t) :
    c < 256 ∧ t = { s with inputQueue := s.inputQueue ++ [BitVec.ofNat 8 c] } := by
  by_cases hc : c < 256
  · rw [pushInput_of_lt hc] at h
    cases h
    exact ⟨hc, rfl⟩
  · rw [pushInput_of_ge (Nat.le_of_not_lt hc)] at h
    cases h

/-- Settles O53: the one check is the range of the character. -/
theorem pushInputOnlyLengthensTheQueue : Obligations.PushInputOnlyLengthensTheQueue :=
  fun s _ => ⟨fun hc => pushInput_of_lt hc s, fun hc => pushInput_of_ge hc s⟩

/-! ### The invariant between micro-steps -/

theorem inv_loadedState (h : PairsInRange pairs) (entry : Nat) (s : State) : Inv (loadedState pairs entry s) :=
  inv_of_boundary (loadPairs_wf h) rfl (show (0#16).extractLsb' 12 4 = 0#4 by decide) nofun nofun rfl

/-- Settles O44: the created core is an empty load. -/
theorem resetMeetsTheInvariant : Obligations.ResetMeetsTheInvariant :=
  inv_loadedState (pairs := []) nofun 0 State.reset

/-- The invariant speaks of neither the queue nor `out_ready`. -/
theorem inv_of_environment (h : Inv s) (queue : List Char8) (script : List Bool) (rest : Bool) :
    Inv { s with inputQueue := queue, outReadyScript := script, outReadyRest := rest } := h

/-- Settles O48: a load gives a boundary with canonical memory; the other two change only the environment. -/
theorem hostActionsKeepTheInvariant : Obligations.HostActionsKeepTheInvariant := by
  refine ⟨fun s t pairs entry hload => ?_, fun s t c h hpush => ?_, fun s script rest h => ?_⟩
  · obtain ⟨hpairs, rfl⟩ := resetLoad_ok hload
    exact inv_loadedState hpairs entry s
  · obtain ⟨-, rfl⟩ := pushInput_ok hpush
    exact inv_of_environment h _ s.outReadyScript s.outReadyRest
  · exact inv_of_environment h s.inputQueue script rest

/-! ### The snapshot, and a store before a fetch -/

/-- Settles O58: the copy of memory reads the same words, the groups are their fields. -/
theorem snapshotShowsTheWholeState : Obligations.SnapshotShowsTheWholeState := by
  refine fun s => ⟨fun a ha => ?_, rfl, rfl, rfl, rfl, rfl⟩
  simp [snapshot, memRead, Nat.mod_eq_of_lt ha]

/-- Settles O59: Fetch reads the memory that STA wrote. -/
theorem storeIntoTheNextInstructionIsFetched : Obligations.StoreIntoTheNextInstructionIsFetched := by
  intro s i a ea hwf hea
  have hfetch {u : State} (hmem : u.mem = memWrite s.mem ea s.ac) (hpc : u.pc = ea) : (fetchWord u).ir = s.ac := by
    change memRead u.mem u.pc = s.ac
    rw [hmem, hpc, memRead_memWrite_same hwf]
  subst hea
  exact ⟨_, exec_sta s i a, fun u hmem hpc => hfetch hmem hpc, fun hpc => hfetch rfl hpc⟩

end Sys2Proof.Machine
end

section
/-! PROOFS. A push commutes with every micro-step but a cycle start that would take the character: no other pulse writes
or reads the input queue (43_input_output.md rules R187 and R190, 60_exceptions.md rule R214). -/

namespace Sys2Proof.Machine

variable {s : State}

/-- The state with one more character waiting. -/
def State.withWaiting (c : Char8) (s : State) : State := { s with inputQueue := s.inputQueue ++ [c] }

/-! ### One pulse -/

theorem pulsesOf_commute_withWaiting (c : Char8) (i : Instr) :
    ∀ p ∈ pulsesOf i, ∀ s : State, p (s.withWaiting c) = (p s).withWaiting c := by
  rw [← List.forall_iff_forall_mem]
  cases i with
  | isz _ _ => exact ⟨fun _ => rfl, fun _ => rfl, fun _ => rfl, fun _ => rfl⟩
  | and _ _ | add _ _ | lda _ _ | bsa _ _ => exact ⟨fun _ => rfl, fun _ => rfl, fun _ => rfl⟩
  | sta _ _ | bun _ _ => exact ⟨fun _ => rfl, fun _ => rfl⟩
  | cla | cle | cma | cme | cir | cil | inc | spa | sna | sza | sze | hlt | inp | out | ski | sko | ion | iof =>
    exact fun _ => rfl

theorem executePulse_withWaiting (c : Char8) (s : State) :
    executePulse (s.withWaiting c) = (executePulse s).map (State.withWaiting c) := by
  rcases hdec : decode s.ir with e | i
  · rw [executePulse_of_error hdec, executePulse_of_error (s := s.withWaiting c) hdec,
      apply_ite (Option.map (State.withWaiting c))]
    rfl
  · rw [executePulse_of_ok hdec, executePulse_of_ok (s := s.withWaiting c) hdec, Option.map_map]
    exact Option.map_congr fun p hp => pulsesOf_commute_withWaiting c i p (List.mem_of_getElem? hp) s

/-- With FGI = 1 no character is taken, and from a queue that is not empty an older one is. -/
theorem deviceUpdate_withWaiting (c : Char8) (h : s.fgi = true ∨ s.inputQueue ≠ []) :
    deviceUpdate (s.withWaiting c) = (deviceUpdate s).withWaiting c := by
  rcases hfgi : s.fgi
  · obtain ⟨d, q, hq⟩ := List.exists_cons_of_ne_nil (h.resolve_left (by simp [hfgi]))
    simp [deviceUpdate, outputUpdate, inputUpdate, takesChar, outReady, State.withWaiting, hfgi, hq]
  · simp [deviceUpdate, outputUpdate, inputUpdate, takesChar, outReady, State.withWaiting, hfgi]

theorem pulse_withWaiting (c : Char8) (h : s.sc = 0#4 → s.fgi = true ∨ s.inputQueue ≠ []) :
    pulse (s.withWaiting c) = (pulse s).map (State.withWaiting c) := by
  have hsc : (s.withWaiting c).sc = s.sc := rfl
  have hflagR : (s.withWaiting c).flagR = s.flagR := rfl
  have hstart (hn : s.sc.toNat = 0) := deviceUpdate_withWaiting c (h (BitVec.eq_of_toNat_eq hn))
  rcases hR : s.flagR <;> simp only [pulse, hsc, hflagR, hR]
  · rcases hn : s.sc.toNat with _ | _ | _ | n
    · exact congrArg (fun u => some (fetchT0 u)) (hstart hn)
    · rfl
    · rfl
    · exact executePulse_withWaiting c s
  · rcases hn : s.sc.toNat with _ | _ | _ | n
    · exact congrArg (fun u => some (interruptRT0 u)) (hstart hn)
    · rfl
    · rfl
    · rfl

/-! ### One micro-step -/

theorem microStep_withWaiting (c : Char8) (h : ¬Running s ∨ s.sc ≠ 0#4 ∨ s.fgi = true ∨ s.inputQueue ≠ []) :
    microStep (s.withWaiting c) =
      ⟨(microStep s).kind, (microStep s).state.withWaiting c, (microStep s).pulses⟩ := by
  have hF : (s.withWaiting c).faultReg = s.faultReg := rfl
  have hS : (s.withWaiting c).flagS = s.flagS := rfl
  have hC : (s.withWaiting c).sc = s.sc := rfl
  rcases hfault : s.faultReg with _ | f
  · rcases hstop : s.flagS
    · have hpulse := pulse_withWaiting c fun hsc =>
        (h.resolve_left (not_not_intro ⟨hfault, hstop⟩)).resolve_left (not_not_intro hsc)
      rcases hp : pulse s with _ | t <;> simp [microStep, hF, hS, hC, hfault, hstop, hpulse, hp]
    · simp [microStep, hF, hS, hfault, hstop]
  · simp [microStep, hF, hfault]

/-- Settles O54: the push is the waiting character, with which the micro-step commutes. -/
theorem pushInputCommutesWithThePulsesThatDoNotTakeIt : Obligations.PushInputCommutesWithThePulsesThatDoNotTakeIt := by
  intro s t c hpush h
  obtain ⟨hc, rfl⟩ := pushInput_ok hpush
  have hm := microStep_withWaiting (BitVec.ofNat 8 c) h
  change (microStep (s.withWaiting (BitVec.ofNat 8 c))).kind = _ ∧
    _ = Except.ok (microStep (s.withWaiting (BitVec.ofNat 8 c))).state
  rw [hm, pushInput_of_lt hc]
  exact ⟨rfl, rfl⟩

end Sys2Proof.Machine
end
